-- ==== Sys2Proof/Word.lean ====
section
/-! DEFINITION. The widths of the block's values (spec 00_scope.md section 5, 40_crc5.md R111): all unsigned bit vectors. -/

namespace Sys2Proof

/-- A byte of a frame or of an argument. -/
abbrev Byte := BitVec 8

/-- A command word, `cmd[11:0]` (R60). -/
abbrev Command := BitVec 12

/-- A response, and every 32-bit field of a frame (R62, R25). -/
abbrev Word32 := BitVec 32

end Sys2Proof
end

