-- ==== Sys2Proof/Syntax.lean ====
section
/-! DEFINITION. The twelve operations of the block (spec 30_encoding.md R61), one constructor per row of the
operation map, with the operands of R63. -/

namespace Sys2Proof

/-- The selector of VREAD, one constructor per row of the table of R63, its reserved row included.
`WellFormed` refuses the reserved one. -/
inductive Selector where
  | status    -- 0, STATUS
  | payload   -- 1, PAYLOAD
  | b6        -- 2, B6
  | b7        -- 3, B7
  | trailer   -- 4, TRAILER
  | count     -- 5, COUNT
  | faults    -- 6, FAULTS
  | reserved  -- 7, illegal (R63, R64)
deriving DecidableEq, Repr

/-- An operation of the block (R61). A data bit is a `Bool`, true for 1. -/
inductive Instr where
  | c5init
  | c5bit (d : Bool)
  | c5byte (b : Byte)
  | c5read
  | c16init
  | c16bit (d : Bool)
  | c16byte (b : Byte)
  | c16read
  | vclr
  | vpush (b : Byte)
  | vcheck
  | vread (sel : Selector)
deriving DecidableEq, Repr

end Sys2Proof
end

