-- ==== Sys2Proof/WellFormed.lean ====
section
/-! DEFINITION. Which terms of `Instr` are operations of the block. The one operand value a term can carry that no
command word may is VREAD's reserved selector (spec 30_encoding.md R63, R64). -/

namespace Sys2Proof

/-- The selectors a command word may carry: all but 7 (R64). -/
def Selector.wellFormed : Selector → Bool
  | .status | .payload | .b6 | .b7 | .trailer | .count | .faults => true
  | .reserved => false

/-- An operation of the block with a legal operand (R61, R64). -/
def Instr.wellFormed : Instr → Bool
  | .vread sel => sel.wellFormed
  | .c5init | .c5bit _ | .c5byte _ | .c5read => true
  | .c16init | .c16bit _ | .c16byte _ | .c16read => true
  | .vclr | .vpush _ | .vcheck => true

end Sys2Proof
end

