-- ==== Sys2Proof/Decode.lean ====
section
/-! DEFINITION. From a command word to an operation and back (spec 30_encoding.md Part A). The decoder is total (R65):
every 12-bit word is one operation with its argument, or is rejected under the clause of R64 that makes it illegal. -/

namespace Sys2Proof

/-- Why a command word is illegal: the clauses of R64. -/
inductive Illegal where
  | reservedOp        -- `op` is 0x0, 0xD, 0xE or 0xF
  | argNotZero        -- an operation without operand and `arg != 0`
  | bitArgTooWide     -- C5BIT, C16BIT and `arg[7:1] != 0`
  | selectorTooWide   -- VREAD and `arg[7:3] != 0`
  | selectorReserved  -- VREAD and `arg[2:0] == 7`
deriving DecidableEq, Repr

/-- The field `op`, `cmd[11:8]` (R60). -/
def Command.op (w : Command) : BitVec 4 := w.extractLsb' 8 4

/-- The field `arg`, `cmd[7:0]` (R60). -/
def Command.arg (w : Command) : Byte := w.extractLsb' 0 8

/-- An operation without operand: `arg` must be 0 (R61, R64). -/
def decodeNoArg (arg : Byte) (i : Instr) : Except Illegal Instr :=
  if arg = 0 then .ok i else .error .argNotZero

/-- A bit operation: `d = arg[0]`, `arg[7:1]` must be 0 (R61, R63, R64). -/
def decodeBitArg (arg : Byte) (mk : Bool → Instr) : Except Illegal Instr :=
  if arg >>> 1 = 0 then .ok (mk (arg.getLsbD 0)) else .error .bitArgTooWide

/-- The selector with number `arg[2:0]` (R63). -/
def Selector.ofCode (c : BitVec 3) : Selector :=
  match c.toNat with
  | 0 => .status
  | 1 => .payload
  | 2 => .b6
  | 3 => .b7
  | 4 => .trailer
  | 5 => .count
  | 6 => .faults
  | _ => .reserved

/-- VREAD: `sel = arg[2:0]`, 0 to 6, and `arg[7:3]` must be 0 (R61, R63, R64). -/
def decodeSelector (arg : Byte) : Except Illegal Instr :=
  if arg >>> 3 = 0 then
    match Selector.ofCode (arg.extractLsb' 0 3) with
    | .reserved => .error .selectorReserved
    | sel => .ok (.vread sel)
  else .error .selectorTooWide

/-- The operation a command word stands for, or the clause of R64 that rejects it (R61, R64, R65). -/
def decode (w : Command) : Except Illegal Instr :=
  match w.op.toNat with
  | 0x1 => decodeNoArg w.arg .c5init
  | 0x2 => decodeBitArg w.arg .c5bit
  | 0x3 => .ok (.c5byte w.arg)
  | 0x4 => decodeNoArg w.arg .c5read
  | 0x5 => decodeNoArg w.arg .c16init
  | 0x6 => decodeBitArg w.arg .c16bit
  | 0x7 => .ok (.c16byte w.arg)
  | 0x8 => decodeNoArg w.arg .c16read
  | 0x9 => decodeNoArg w.arg .vclr
  | 0xA => .ok (.vpush w.arg)
  | 0xB => decodeNoArg w.arg .vcheck
  | 0xC => decodeSelector w.arg
  | _ => .error .reservedOp

/-- The number of a selector (R63). -/
def Selector.code : Selector → BitVec 3
  | .status => 0
  | .payload => 1
  | .b6 => 2
  | .b7 => 3
  | .trailer => 4
  | .count => 5
  | .faults => 6
  | .reserved => 7

/-- The operation code (R61). -/
def Instr.op : Instr → BitVec 4
  | .c5init => 0x1
  | .c5bit _ => 0x2
  | .c5byte _ => 0x3
  | .c5read => 0x4
  | .c16init => 0x5
  | .c16bit _ => 0x6
  | .c16byte _ => 0x7
  | .c16read => 0x8
  | .vclr => 0x9
  | .vpush _ => 0xA
  | .vcheck => 0xB
  | .vread _ => 0xC

/-- The argument byte (R61, R63). -/
def Instr.arg : Instr → Byte
  | .c5bit d | .c16bit d => if d then 1 else 0
  | .c5byte b | .c16byte b | .vpush b => b
  | .vread sel => sel.code.setWidth 8
  | .c5init | .c5read | .c16init | .c16read | .vclr | .vcheck => 0

/-- The command word `op << 8 | arg` of an operation (R60, R61). -/
def encode (i : Instr) : Command := i.op ++ i.arg

/-- The command word whose bits are the low `nbits` bits of `w`; none when a bit above bit 11 is set, since the
command port is 12 bits wide (R60; notes/assumptions/13.md). -/
def commandOfBits (nbits w : Nat) : Option Command :=
  if w % 2 ^ nbits < 4096 then some (BitVec.ofNat 12 (w % 2 ^ nbits)) else none

/-- The instruction the decoder reads from a word numbered as spec/opcode_table.json numbers it. -/
def decodeTableWord (nbits w : Nat) : Option Instr :=
  match commandOfBits nbits w with
  | none => none
  | some c =>
    match decode c with
    | .ok i => some i
    | .error _ => none

end Sys2Proof
end

