-- ==== Sys2Proof/Config.lean ====
section
/-! DEFINITION. What an instance of the block fixes: the source's constants and the two open parameters
(spec 00_scope.md section 4, R3, R228). The two open parameters have no value here: a theorem about them holds for
every value (notes/assumptions/5.md, 6.md). -/

namespace Sys2Proof

/-- The record `CRC16_PARAMS` (00_scope.md section 4). -/
structure Crc16Params where
  poly   : BitVec 16
  init   : BitVec 16
  refin  : Bool
  refout : Bool
  xorout : BitVec 16
deriving DecidableEq, Repr, Inhabited

/-- The recommended instance of R131, CRC-16/CCITT-FALSE. No meaning of an operation uses it: it is here for
statements about that one instance, which the spec marks as general knowledge. -/
def Crc16Params.recommended : Crc16Params :=
  { poly := 0x1021, init := 0xFFFF, refin := false, refout := false, xorout := 0x0000 }

/-- `CRC5_INIT` (00_scope.md section 4, R102). -/
def Config.crc5Init : BitVec 5 := 0x1F

/-- `CRC5_POLY`, x^5 + x^2 + 1 without its top term (00_scope.md section 4, R100). -/
def Config.crc5Poly : BitVec 5 := 0x05

/-- `PRE_TX`, host to chip (00_scope.md section 4, R72). -/
def Config.preTx : List Byte := [0x55, 0xAA]

/-- `PRE_RX`, chip to host: first and second byte (00_scope.md section 4, R72). -/
def Config.preRx0 : Byte := 0xAA

@[inherit_doc Config.preRx0]
def Config.preRx1 : Byte := 0x55

/-- The open parameter `CRC16_PARAMS` of this block (R3, D6). OPEN in the spec: notes/assumptions/5.md. -/
opaque Config.crc16Params : Crc16Params

/-- Membership in `REG_ADDR_SET` of every address the source says nothing about (R3, D7).
OPEN in the spec: notes/assumptions/6.md. -/
opaque Config.otherRegAddr : Byte → Bool

/-- The open parameter `REG_ADDR_SET` as a membership test (R3, R167): 0x00 and 0x80 are members, 0xF0 is not, and
nothing else is known. -/
def Config.regAddrSet (a : Byte) : Bool :=
  if a = 0x00 ∨ a = 0x80 then true
  else if a = 0xF0 then false
  else Config.otherRegAddr a

end Sys2Proof
end

