-- ==== Sys2Proof/Machine/State.lean ====
section
/-! DEFINITION. The state of the block: the ten registers of spec 10_state.md (R5, R20 to R29), and the model's own two
fields for what passes through the command port (notes/assumptions/1.md, 2.md). Plain data. -/

namespace Sys2Proof.Machine

/-- The verdicts of `VST` (R24). Codes 3 and 7 are never produced and have no constructor (U15). -/
inductive Verdict where
  | idle         -- 0, V_IDLE
  | reg          -- 1, V_REG
  | job          -- 2, V_JOB
  | errPreamble  -- 4, V_ERR_PREAMBLE
  | errCrc       -- 5, V_ERR_CRC
  | errUnkreg    -- 6, V_ERR_UNKREG
deriving DecidableEq, Repr

/-- The four usage faults (R29, R204). -/
inductive Usage where
  | illegalOp   -- ILLEGAL_OP
  | rxOverrun   -- RX_OVERRUN
  | rxUnderrun  -- RX_UNDERRUN
  | noResult    -- NO_RESULT
deriving DecidableEq, Repr

/-- What the outside does to the block: the host issues a command word, or the reset event occurs (R4, R220). -/
inductive Event where
  | command (w : Command)
  | reset
deriving DecidableEq, Repr

/-- Why a step could stop the block: nothing does, so there is no constructor. "there is no hang, no stuck state and
no refusal in this block" (R231), and a usage fault is a bit of `FLT`, after which the block goes on (R204;
notes/assumptions/21.md). Safe and unsafe alike: no step ends here. -/
inductive Fault where
deriving DecidableEq, Repr

/-- Why an operation could have no meaning. -/
inductive Refusal where
  /-- An operation whose meaning is not written yet: raised by no arm of `exec`, since all twelve have theirs. Safe. -/
  | notModelled (mnemonic : String)
deriving DecidableEq, Repr

/-- What VCHECK latches: a verdict and, for some verdicts, fields; an absent field is a register that holds no value
(R162, R163, R34). -/
structure CheckResult where
  vst  : Verdict
  vpay : Option Word32
  vb6  : Option Byte
  vb7  : Option Byte
  vtrl : Option Byte
deriving DecidableEq, Repr

/-- No verdict, and no result register holds a value: as VCLR and reset leave them (R160, R220). -/
def CheckResult.cleared : CheckResult := ⟨.idle, none, none, none, none⟩

/-- The block. -/
structure State where
  /-- `C5`, the CRC-5 accumulator (R20). -/
  c5      : BitVec 5
  /-- `C16`, the unfinished CRC-16 (R21). -/
  c16     : BitVec 16
  /-- `RXB[0]` to `RXB[RXN - 1]`; the length is `RXN` (R22, R23; notes/assumptions/7.md). -/
  rxb     : List Byte
  /-- `VST` (R24). -/
  vst     : Verdict
  /-- `VPAY`, or no value (R25, R34). -/
  vpay    : Option Word32
  /-- `VB6`, or no value (R26, R34). -/
  vb6     : Option Byte
  /-- `VB7`, or no value (R27, R34). -/
  vb7     : Option Byte
  /-- `VTRL`, or no value (R28, R34). -/
  vtrl    : Option Byte
  /-- `FLT`, the sticky usage-fault bits (R29). -/
  flt     : BitVec 4
  /-- The model's own field: what the outside will do next, first first (R9; notes/assumptions/1.md). -/
  pending : List Event
  /-- The model's own field: what the last step returned to the host (R62; notes/assumptions/2.md). -/
  resp    : Option Word32
deriving DecidableEq, Repr

/-- `RXN`, the number of bytes in `RXB` (R23). -/
def State.rxn (s : State) : Nat := s.rxb.length

/-- The verdict and the four result registers together. -/
def State.results (s : State) : CheckResult := ⟨s.vst, s.vpay, s.vb6, s.vb7, s.vtrl⟩

/-- The block right after reset (R220 and the rules it names); nothing is pending and nothing was returned
(notes/assumptions/11.md). -/
def State.reset : State where
  c5      := Config.crc5Init
  c16     := Config.crc16Params.init
  rxb     := []
  vst     := .idle
  vpay    := none
  vb6     := none
  vb7     := none
  vtrl    := none
  flt     := 0
  pending := []
  resp    := none

end Sys2Proof.Machine
end

