-- ==== Sys2Proof/Machine/Flags.lean ====
section
/-! DEFINITION. The two flag-like registers (spec 10_state.md section 4): the codes of `VST` (R24), which result
register holds a value under which verdict (R34), and the bits of `FLT` (R29). -/

namespace Sys2Proof.Machine

/-- The three bits of `VST` (R24). -/
def Verdict.code : Verdict → BitVec 3
  | .idle => 0
  | .reg => 1
  | .job => 2
  | .errPreamble => 4
  | .errCrc => 5
  | .errUnkreg => 6

/-- `VPAY` and `VB6` hold a value: `VST` is `V_REG` or `V_JOB` (R34, R63). -/
def Verdict.carriesPayload : Verdict → Bool
  | .reg | .job => true
  | .idle | .errPreamble | .errCrc | .errUnkreg => false

/-- `VB7` and `VTRL` hold a value: `VST` is `V_REG`, `V_JOB` or `V_ERR_UNKREG` (R34, R63). -/
def Verdict.carriesAddress : Verdict → Bool
  | .reg | .job | .errUnkreg => true
  | .idle | .errPreamble | .errCrc => false

/-- The bit of `FLT` a usage fault sets (R29, R204), as a mask. -/
def Usage.mask : Usage → BitVec 4
  | .illegalOp => 0b0001
  | .rxOverrun => 0b0010
  | .rxUnderrun => 0b0100
  | .noResult => 0b1000

end Sys2Proof.Machine
end

