-- ==== Sys2Proof/Machine/Operands.lean ====
section
/-! DEFINITION. Bits of bytes and bytes of words: the orders in which a byte is fed to a checksum (spec 20_memory.md
R43, 41_crc16.md R121), byte order of multi-byte fields (R45, R46), the fields of the trailer byte (R28, R70), and the
zero extension of every response (R62). -/

namespace Sys2Proof.Machine

/-- The bits of a byte, most significant first: `b[7], b[6], ..., b[0]` (R43, R101). -/
def bitsMsbFirst (b : Byte) : List Bool :=
  [b.getLsbD 7, b.getLsbD 6, b.getLsbD 5, b.getLsbD 4, b.getLsbD 3, b.getLsbD 2, b.getLsbD 1, b.getLsbD 0]

/-- The bits of a byte, least significant first: `b[0], b[1], ..., b[7]` (R121). -/
def bitsLsbFirst (b : Byte) : List Bool :=
  [b.getLsbD 0, b.getLsbD 1, b.getLsbD 2, b.getLsbD 3, b.getLsbD 4, b.getLsbD 5, b.getLsbD 6, b.getLsbD 7]

/-- `rev16(v)`: bit `i` of the result is `v[15 - i]` (00_scope.md section 5). -/
def rev16 (v : BitVec 16) : BitVec 16 := v.reverse

/-- `zext_32(v)`: what an operation returns for a narrower value (R62). -/
def zext32 {n : Nat} (v : BitVec n) : Word32 := v.setWidth 32

/-- `be32(b0, b1, b2, b3)`: the first byte is the most significant (00_scope.md section 5, R45). -/
def be32 (b0 b1 b2 b3 : Byte) : Word32 := b0 ++ b1 ++ b2 ++ b3

/-- `le32(b0, b1, b2, b3)`: the first byte is the least significant (00_scope.md section 5, R46). -/
def le32 (b0 b1 b2 b3 : Byte) : Word32 := b3 ++ b2 ++ b1 ++ b0

/-- The four bytes of a big-endian field, in frame order (R45). -/
def bytesBE (v : Word32) : List Byte :=
  [v.extractLsb' 24 8, v.extractLsb' 16 8, v.extractLsb' 8 8, v.extractLsb' 0 8]

/-- The four bytes of a little-endian field, in frame order (R46). -/
def bytesLE (v : Word32) : List Byte :=
  [v.extractLsb' 0 8, v.extractLsb' 8 8, v.extractLsb' 16 8, v.extractLsb' 24 8]

/-- The two bytes of a CRC-16 as a frame carries it: high byte first (R45, R124). -/
def bytes16BE (c : BitVec 16) : List Byte := [c.extractLsb' 8 8, c.extractLsb' 0 8]

/-- `TYP`, bit 7 of the trailer: 1 for a job response (R28, R70). -/
def trailerTyp (t : Byte) : Bool := t.getLsbD 7

/-- `RSV`, bits 6:5 of the trailer, never tested (R28, R70). -/
def trailerRsv (t : Byte) : BitVec 2 := t.extractLsb' 5 2

/-- `CHK`, bits 4:0 of the trailer, the CRC-5 check bits (R28, R70). -/
def trailerChk (t : Byte) : BitVec 5 := t.extractLsb' 0 5

end Sys2Proof.Machine
end

