-- ==== Sys2Proof/Machine/Ops.lean ====
section
/-! DEFINITION. The named operations over the registers: raising a usage fault (the block's one way of taking an
exception, spec 60_exceptions.md R204; there is no return from one, R207), returning a response (R62), the accumulators,
the frame buffer, the result registers, the command port and the reset event. -/

namespace Sys2Proof.Machine

/-- `raise Usage(u)`: the bit of `FLT` is set, nothing else changes, nothing is returned (00_scope.md section 6, R204). -/
def raiseUsage (u : Usage) (s : State) : State := { s with flt := s.flt ||| u.mask, resp := none }

/-- `respond v`: the step returns `v` to the host (00_scope.md section 6, R62). -/
def respond (v : Word32) (s : State) : State := { s with resp := some v }

/-- An operation without `respond` returns nothing (R62). -/
def returnNothing (s : State) : State := { s with resp := none }

/-- `C5 <- v`. -/
def setC5 (v : BitVec 5) (s : State) : State := { s with c5 := v, resp := none }

/-- `C16 <- v`. -/
def setC16 (v : BitVec 16) (s : State) : State := { s with c16 := v, resp := none }

/-- `RXB[RXN] <- b; RXN <- RXN + 1` (R161). -/
def pushByte (b : Byte) (s : State) : State := { s with rxb := s.rxb ++ [b], resp := none }

/-- The verdict and the result registers take the values of `r`; a field `r` does not have leaves its register holding
no value (R163). -/
def latch (r : CheckResult) (s : State) : State :=
  { s with vst := r.vst, vpay := r.vpay, vb6 := r.vb6, vb7 := r.vb7, vtrl := r.vtrl, resp := none }

/-- The validator as VCLR leaves it (R160). -/
def clearValidator (s : State) : State := latch .cleared { s with rxb := [] }

/-- Reading a result register (R164, R34): its value zero-extended when the verdict carries it and it holds one, else
the usage fault NO_RESULT (notes/assumptions/9.md). -/
def readResult {n : Nat} (carried : Bool) (r : Option (BitVec n)) (s : State) : State :=
  match carried, r with
  | true, some v => respond (zext32 v) s
  | _, _ => raiseUsage .noResult s

/-- The reset event: every register takes its reset value, and nothing else happens (R220). What the outside will do
after it stands as it was. -/
def resetEvent (s : State) : State := { State.reset with pending := s.pending }

/-- The command port: the next thing the outside does, and the block with it taken (R4, R50). -/
def nextEvent (s : State) : Option (Event × State) :=
  match s.pending with
  | [] => none
  | e :: rest => some (e, { s with pending := rest })

/-- The host puts a command word on the port, ahead of whatever it was to do next. -/
def offer (w : Command) (s : State) : State := { s with pending := .command w :: s.pending }

end Sys2Proof.Machine
end

