-- ==== Sys2Proof/Machine/Crc16.lean ====
section
/-! DEFINITION. The CRC-16 unit: the functions of spec 41_crc16.md R120 to R124, for every value `p` of the open
parameter `CRC16_PARAMS`, and the four operations C16INIT, C16BIT, C16BYTE, C16READ (R125 to R128), which use this
block's value `Config.crc16Params`. -/

namespace Sys2Proof.Machine

/-- `crc16bit(c, d)`, the one-bit step (R120). -/
def crc16bit (p : Crc16Params) (c : BitVec 16) (d : Bool) : BitVec 16 :=
  (c <<< 1) ^^^ (if c.getLsbD 15 ^^ d then p.poly else 0)

/-- The bits of a list, first to last, through the one-bit step (R129). -/
def crc16bits (p : Crc16Params) (c : BitVec 16) (ds : List Bool) : BitVec 16 := ds.foldl (crc16bit p) c

/-- The order in which the bits of a byte are fed (R121, R43). -/
def crc16order (p : Crc16Params) (b : Byte) : List Bool := if p.refin then bitsLsbFirst b else bitsMsbFirst b

/-- `crc16byte(c, b)`, the one-byte step (R121). -/
def crc16byte (p : Crc16Params) (c : BitVec 16) (b : Byte) : BitVec 16 := crc16bits p c (crc16order p b)

/-- `crc16acc(bytes)`, the accumulator after a byte sequence (R122). -/
def crc16acc (p : Crc16Params) (bytes : List Byte) : BitVec 16 := bytes.foldl (crc16byte p) p.init

/-- `crc16fin(c)`, the finishing step (R123). -/
def crc16fin (p : Crc16Params) (c : BitVec 16) : BitVec 16 := (if p.refout then rev16 c else c) ^^^ p.xorout

/-- `crc16(bytes)` (R124). -/
def crc16 (p : Crc16Params) (bytes : List Byte) : BitVec 16 := crc16fin p (crc16acc p bytes)

/-- C16INIT (R125). -/
def execC16init (s : State) : Host.Outcome State Fault Refusal := .next (setC16 Config.crc16Params.init s)

/-- C16BIT d (R126). -/
def execC16bit (d : Bool) (s : State) : Host.Outcome State Fault Refusal :=
  .next (setC16 (crc16bit Config.crc16Params s.c16 d) s)

/-- C16BYTE b (R127). -/
def execC16byte (b : Byte) (s : State) : Host.Outcome State Fault Refusal :=
  .next (setC16 (crc16byte Config.crc16Params s.c16 b) s)

/-- C16READ (R128). -/
def execC16read (s : State) : Host.Outcome State Fault Refusal :=
  .next (respond (zext32 (crc16fin Config.crc16Params s.c16)) s)

end Sys2Proof.Machine
end

