-- ==== Sys2Proof/Machine/Crc5.lean ====
section
/-! DEFINITION. The CRC-5 unit: the functions of spec 40_crc5.md R100 to R102 and the four operations C5INIT, C5BIT,
C5BYTE, C5READ (R103 to R106). -/

namespace Sys2Proof.Machine

/-- `crc5bit(c, d)`, the one-bit step (R100). -/
def crc5bit (c : BitVec 5) (d : Bool) : BitVec 5 :=
  (c <<< 1) ^^^ (if c.getLsbD 4 ^^ d then Config.crc5Poly else 0)

/-- The bits of a list, first to last, through the one-bit step (R107). -/
def crc5bits (c : BitVec 5) (ds : List Bool) : BitVec 5 := ds.foldl crc5bit c

/-- `crc5byte(c, b)`, the one-byte step (R101). -/
def crc5byte (c : BitVec 5) (b : Byte) : BitVec 5 := crc5bits c (bitsMsbFirst b)

/-- `crc5(bytes)` (R102). -/
def crc5 (bytes : List Byte) : BitVec 5 := bytes.foldl crc5byte Config.crc5Init

/-- C5INIT (R103). -/
def execC5init (s : State) : Host.Outcome State Fault Refusal := .next (setC5 Config.crc5Init s)

/-- C5BIT d (R104). -/
def execC5bit (d : Bool) (s : State) : Host.Outcome State Fault Refusal := .next (setC5 (crc5bit s.c5 d) s)

/-- C5BYTE b (R105). -/
def execC5byte (b : Byte) (s : State) : Host.Outcome State Fault Refusal := .next (setC5 (crc5byte s.c5 b) s)

/-- C5READ (R106). -/
def execC5read (s : State) : Host.Outcome State Fault Refusal := .next (respond (zext32 s.c5) s)

end Sys2Proof.Machine
end

