-- ==== Sys2Proof/Machine/Validator.lean ====
section
/-! DEFINITION. The response-frame validator: the function `validate` of spec 43_rx_validator.md R162 and the four
operations VCLR, VPUSH, VCHECK, VREAD (R160, R161, R163, R164). It has a CRC-5 of its own and touches neither `C5` nor
`C16` (10_state.md R33). -/

namespace Sys2Proof.Machine

/-- A response frame: exactly nine bytes `f[0]` to `f[8]` (R69, R162). -/
structure Frame where
  f0 : Byte
  f1 : Byte
  f2 : Byte
  f3 : Byte
  f4 : Byte
  f5 : Byte
  f6 : Byte
  f7 : Byte
  f8 : Byte
deriving DecidableEq, Repr

/-- The nine bytes in frame order (R41). -/
def Frame.toList (f : Frame) : List Byte := [f.f0, f.f1, f.f2, f.f3, f.f4, f.f5, f.f6, f.f7, f.f8]

/-- The frame a full buffer holds; none unless there are exactly nine bytes (R163: `RXN == 9`). -/
def frameOf : List Byte → Option Frame
  | [b0, b1, b2, b3, b4, b5, b6, b7, b8] => some ⟨b0, b1, b2, b3, b4, b5, b6, b7, b8⟩
  | _ => none

/-- The CRC-5 span `f[2..9]`, the trailer included (R69). -/
def Frame.span (f : Frame) : List Byte := [f.f2, f.f3, f.f4, f.f5, f.f6, f.f7, f.f8]

/-- Step 1 of R162: both preamble bytes are right (R72). -/
def Frame.preambleGood (f : Frame) : Bool := f.f0 == Config.preRx0 && f.f1 == Config.preRx1

/-- Step 2 of R162: the CRC-5 over the span, trailer included, is zero. -/
def Frame.crcGood (f : Frame) : Bool := crc5 f.span == 0

/-- The payload, big-endian (R25, R69). -/
def Frame.payload (f : Frame) : Word32 := be32 f.f2 f.f3 f.f4 f.f5

/-- `validate(f)` (R162), with the set of known register addresses as an argument (R3, R167). -/
def validate (known : Byte → Bool) (f : Frame) : CheckResult :=
  if !f.preambleGood then ⟨.errPreamble, none, none, none, none⟩
  else if !f.crcGood then ⟨.errCrc, none, none, none, none⟩
  else if trailerTyp f.f8 then ⟨.job, some f.payload, some f.f6, some f.f7, some f.f8⟩
  else if !known f.f7 then ⟨.errUnkreg, none, none, some f.f7, some f.f8⟩
  else ⟨.reg, some f.payload, some f.f6, some f.f7, some f.f8⟩

/-- The 51 bits the sender's check bits cover: `f[2]` to `f[7]`, then `TYP` and the two `RSV` bits (R170). -/
def Frame.bits51 (f : Frame) : List Bool :=
  [f.f2, f.f3, f.f4, f.f5, f.f6, f.f7].flatMap bitsMsbFirst ++ [f.f8.getLsbD 7, f.f8.getLsbD 6, f.f8.getLsbD 5]

/-- `c51`, the CRC-5 of those bits (R170). -/
def Frame.crc51 (f : Frame) : BitVec 5 := crc5bits Config.crc5Init f.bits51

/-- VCLR (R160). `FLT` is not cleared. -/
def execVclr (s : State) : Host.Outcome State Fault Refusal := .next (clearValidator s)

/-- VPUSH b (R161). -/
def execVpush (b : Byte) (s : State) : Host.Outcome State Fault Refusal :=
  if s.rxn = 9 then .next (raiseUsage .rxOverrun s) else .next (pushByte b s)

/-- VCHECK (R163), with this block's `REG_ADDR_SET`. -/
def execVcheck (s : State) : Host.Outcome State Fault Refusal :=
  match frameOf s.rxb with
  | none => .next (raiseUsage .rxUnderrun s)
  | some f => .next (latch (validate Config.regAddrSet f) s)

/-- VREAD sel (R164, R63); the reserved selector is the usage fault ILLEGAL_OP (R64; notes/assumptions/10.md). -/
def execVread (sel : Selector) (s : State) : Host.Outcome State Fault Refusal :=
  match sel with
  | .status => .next (respond (zext32 s.vst.code) s)
  | .payload => .next (readResult s.vst.carriesPayload s.vpay s)
  | .b6 => .next (readResult s.vst.carriesPayload s.vb6 s)
  | .b7 => .next (readResult s.vst.carriesAddress s.vb7 s)
  | .trailer => .next (readResult s.vst.carriesAddress s.vtrl s)
  | .count => .next (respond (BitVec.ofNat 32 s.rxn) s)
  | .faults => .next (respond (zext32 s.flt) s)
  | .reserved => .next (raiseUsage .illegalOp s)

end Sys2Proof.Machine
end

