-- ==== Sys2Proof/Machine/Dispatch.lean ====
section
/-! DEFINITION. One arm per operation of the block (spec 30_encoding.md R61). -/

namespace Sys2Proof.Machine

/-- What an operation does to the block (R61). -/
def exec (i : Instr) (s : State) : Host.Outcome State Fault Refusal :=
  match i with
  | .c5init => Sys2Proof.Machine.execC5init s
  | .c5bit d => Sys2Proof.Machine.execC5bit d s
  | .c5byte b => Sys2Proof.Machine.execC5byte b s
  | .c5read => Sys2Proof.Machine.execC5read s
  | .c16init => Sys2Proof.Machine.execC16init s
  | .c16bit d => Sys2Proof.Machine.execC16bit d s
  | .c16byte b => Sys2Proof.Machine.execC16byte b s
  | .c16read => Sys2Proof.Machine.execC16read s
  | .vclr => Sys2Proof.Machine.execVclr s
  | .vpush b => Sys2Proof.Machine.execVpush b s
  | .vcheck => Sys2Proof.Machine.execVcheck s
  | .vread sel => Sys2Proof.Machine.execVread sel s

end Sys2Proof.Machine
end

