-- ==== Sys2Proof/Machine/Port.lean ====
section
/-! DEFINITION. The command port: what one issued command word does (spec 30_encoding.md R60, R64), and sequences of
operations, the pseudo-operations among them (R77). -/

namespace Sys2Proof.Machine

/-- The host issues the command word `w`: its operation is executed, or the word is illegal and is the usage fault
ILLEGAL_OP, "the word is not executed" (R64, R205). -/
def issue (w : Command) (s : State) : Host.Outcome State Fault Refusal :=
  match decode w with
  | .ok i => exec i s
  | .error _ => .next (raiseUsage .illegalOp s)

/-- The operations of a list one after the other, each on the state the one before it left (R50). -/
def execAll : List Instr → State → Host.Outcome State Fault Refusal
  | [], s => .next s
  | i :: is, s =>
    match exec i s with
    | .next t => execAll is t
    | .fault r => .fault r
    | .refused r => .refused r

/-- The host is to issue the operations of a list, before whatever it was to do next (R9). -/
def offerAll (is : List Instr) (s : State) : State :=
  { s with pending := is.map (fun i => .command (encode i)) ++ s.pending }

/-- The pseudo-operations (R77). PARSE takes exactly nine bytes. -/
inductive Pseudo where
  | crc5 (bytes : List Byte)
  | crc16 (bytes : List Byte)
  | parse (f : Frame)
  | seal5 (body : List Byte)
  | seal16 (body : List Byte)
deriving DecidableEq, Repr

/-- `C5INIT; C5BYTE b0; ...; C5READ` (R77). -/
def crc5Sequence (bytes : List Byte) : List Instr := .c5init :: bytes.map .c5byte ++ [.c5read]

/-- `C16INIT; C16BYTE b0; ...; C16READ` (R77). -/
def crc16Sequence (bytes : List Byte) : List Instr := .c16init :: bytes.map .c16byte ++ [.c16read]

/-- The sequence of operations a pseudo-operation stands for (R77). For SEAL5 and SEAL16 the host then appends bytes of
the response to the body: `appendTrailer`, `appendCrc16`. -/
def Pseudo.expand : Pseudo → List Instr
  | .crc5 bytes => crc5Sequence bytes
  | .crc16 bytes => crc16Sequence bytes
  | .parse f => .vclr :: f.toList.map .vpush ++ [.vcheck, .vread .status]
  | .seal5 body => crc5Sequence (body.drop 2)
  | .seal16 body => crc16Sequence (body.drop 2)

/-- SEAL5: the host appends the low byte of the response to the body (R77, R140). -/
def appendTrailer (body : List Byte) (r : Word32) : List Byte := body ++ [r.extractLsb' 0 8]

/-- SEAL16: the host appends bits 15:8 and then bits 7:0 of the response to the body (R77, R141). -/
def appendCrc16 (body : List Byte) (r : Word32) : List Byte := body ++ [r.extractLsb' 8 8, r.extractLsb' 0 8]

end Sys2Proof.Machine
end

