-- ==== Sys2Proof/Machine/Step.lean ====
section
/-! DEFINITION. One step of the block: it takes what the outside does next from the command port and executes it
(spec 00_scope.md R4, 20_memory.md R50). -/

namespace Sys2Proof.Machine

/-- One step: a command word is executed, the reset event resets the block, and with nothing pending the block waits
(R4, R50, R220, R221; notes/assumptions/3.md, 4.md). It always answers a next state (R231). -/
def step (s : State) : Host.Outcome State Fault Refusal :=
  match nextEvent s with
  | none => .next (returnNothing s)
  | some (.reset, s') => .next (resetEvent s')
  | some (.command w, s') => issue w s'

/-- `s` with the host about to issue the command word whose bits are the low `nbits` bits of `w`, numbered as
spec/opcode_table.json numbers them. A word wider than the command port's 12 bits cannot be put on it: then nothing is
(notes/assumptions/1.md, 13.md). -/
def State.withFetchWord (s : State) (nbits w : Nat) : State :=
  match commandOfBits nbits w with
  | some c => offer c s
  | none => s

end Sys2Proof.Machine
end

