-- ==== Sys2Proof/Machine/Assembler.lean ====
section
/-! DEFINITION. The assembler syntax of spec 30_encoding.md R76: a line of text is an operation, a pseudo-operation
(R77) or blank. What R76 leaves open is said in notes/assumptions/20.md. -/

namespace Sys2Proof.Machine

/-- A piece of text; a line has no line break in it. -/
abbrev Text := List Char

/-- What an operation takes after its mnemonic (R61, R76). -/
inductive Shape where
  | noOperand (i : Instr)
  | bit (mk : Bool → Instr)
  | byte (mk : Byte → Instr)
  | selector (mk : Selector → Instr)

/-- The mnemonics of R61, in capitals (R76). -/
def operationTable : List (Text × Shape) :=
  [ (['C', '5', 'I', 'N', 'I', 'T'], .noOperand .c5init)
  , (['C', '5', 'B', 'I', 'T'], .bit .c5bit)
  , (['C', '5', 'B', 'Y', 'T', 'E'], .byte .c5byte)
  , (['C', '5', 'R', 'E', 'A', 'D'], .noOperand .c5read)
  , (['C', '1', '6', 'I', 'N', 'I', 'T'], .noOperand .c16init)
  , (['C', '1', '6', 'B', 'I', 'T'], .bit .c16bit)
  , (['C', '1', '6', 'B', 'Y', 'T', 'E'], .byte .c16byte)
  , (['C', '1', '6', 'R', 'E', 'A', 'D'], .noOperand .c16read)
  , (['V', 'C', 'L', 'R'], .noOperand .vclr)
  , (['V', 'P', 'U', 'S', 'H'], .byte .vpush)
  , (['V', 'C', 'H', 'E', 'C', 'K'], .noOperand .vcheck)
  , (['V', 'R', 'E', 'A', 'D'], .selector .vread) ]

/-- The mnemonic of an operation (R61). -/
def Instr.mnemonic : Instr → Text
  | .c5init => ['C', '5', 'I', 'N', 'I', 'T']
  | .c5bit _ => ['C', '5', 'B', 'I', 'T']
  | .c5byte _ => ['C', '5', 'B', 'Y', 'T', 'E']
  | .c5read => ['C', '5', 'R', 'E', 'A', 'D']
  | .c16init => ['C', '1', '6', 'I', 'N', 'I', 'T']
  | .c16bit _ => ['C', '1', '6', 'B', 'I', 'T']
  | .c16byte _ => ['C', '1', '6', 'B', 'Y', 'T', 'E']
  | .c16read => ['C', '1', '6', 'R', 'E', 'A', 'D']
  | .vclr => ['V', 'C', 'L', 'R']
  | .vpush _ => ['V', 'P', 'U', 'S', 'H']
  | .vcheck => ['V', 'C', 'H', 'E', 'C', 'K']
  | .vread _ => ['V', 'R', 'E', 'A', 'D']

/-- The names of the selectors that have one (R63). -/
def selectorNames : List (Text × Selector) :=
  [ (['S', 'T', 'A', 'T', 'U', 'S'], .status)
  , (['P', 'A', 'Y', 'L', 'O', 'A', 'D'], .payload)
  , (['B', '6'], .b6)
  , (['B', '7'], .b7)
  , (['T', 'R', 'A', 'I', 'L', 'E', 'R'], .trailer)
  , (['C', 'O', 'U', 'N', 'T'], .count)
  , (['F', 'A', 'U', 'L', 'T', 'S'], .faults) ]

/-- The selectors by number, 0 to 6 (R63, R76). -/
def selectorNumbers : List (Text × Selector) :=
  [ (['0'], .status), (['1'], .payload), (['2'], .b6), (['3'], .b7), (['4'], .trailer), (['5'], .count), (['6'], .faults) ]

/-- The value of a decimal digit. -/
def decimalDigit (c : Char) : Option Nat := if '0' ≤ c ∧ c ≤ '9' then some (c.toNat - 48) else none

/-- The value of a hexadecimal digit, in either case. -/
def hexDigit (c : Char) : Option Nat :=
  if 'A' ≤ c ∧ c ≤ 'F' then some (c.toNat - 55)
  else if 'a' ≤ c ∧ c ≤ 'f' then some (c.toNat - 87)
  else decimalDigit c

/-- A value read digit by digit in a base, the first digit the most significant. -/
def digits (digit : Char → Option Nat) (base : Nat) : Nat → Text → Option Nat
  | n, [] => some n
  | n, c :: cs =>
    match digit c with
    | none => none
    | some d => digits digit base (base * n + d) cs

/-- A byte operand: `0x00` to `0xFF`, or decimal 0 to 255 (R76). -/
def parseByte (x : Text) : Option Byte :=
  match x with
  | [] => none
  | ['0', 'x', h, l] => (digits hexDigit 16 0 [h, l]).map (BitVec.ofNat 8)
  | x => (digits decimalDigit 10 0 x).bind fun n => if n ≤ 255 then some (BitVec.ofNat 8 n) else none

/-- A bit operand: `0` or `1` (R76). -/
def parseBit : Text → Option Bool
  | ['0'] => some false
  | ['1'] => some true
  | _ => none

/-- A selector, by its name or its number (R76). -/
def parseSelector (x : Text) : Option Selector := (selectorNames ++ selectorNumbers).lookup x

/-- Space or tab. -/
def isBlank (c : Char) : Bool := c == ' ' || c == '\t'

/-- The text without the blanks at its two ends. -/
def trim (x : Text) : Text := ((x.dropWhile isBlank).reverse.dropWhile isBlank).reverse

/-- The pieces between the commas. -/
def splitCommas : Text → List Text
  | [] => [[]]
  | c :: cs =>
    match splitCommas cs with
    | [] => [[c]]
    | piece :: rest => if c = ',' then [] :: piece :: rest else (c :: piece) :: rest

/-- The operands of a line: what stands between commas after the mnemonic, without blanks at the ends (R76, R77). -/
def operands (x : Text) : List Text := if trim x = [] then [] else (splitCommas x).map trim

/-- The bytes of a list of operands; none if one of them is no byte. -/
def parseBytes : List Text → Option (List Byte)
  | [] => some []
  | x :: xs =>
    match parseByte x, parseBytes xs with
    | some b, some bs => some (b :: bs)
    | _, _ => none

/-- An operation, from its mnemonic and its operands (R76). -/
def parseOperation (mnemonic : Text) (xs : List Text) : Option Instr :=
  match operationTable.lookup mnemonic, xs with
  | some (.noOperand i), [] => some i
  | some (.bit mk), [x] => (parseBit x).map mk
  | some (.byte mk), [x] => (parseByte x).map mk
  | some (.selector mk), [x] => (parseSelector x).map mk
  | _, _ => none

/-- A pseudo-operation, from its name and its bytes: PARSE has exactly nine, SEAL5 and SEAL16 at least two (R77). -/
def parsePseudo (name : Text) (bytes : List Byte) : Option Pseudo :=
  if name = ['C', 'R', 'C', '5'] then some (.crc5 bytes)
  else if name = ['C', 'R', 'C', '1', '6'] then some (.crc16 bytes)
  else if name = ['P', 'A', 'R', 'S', 'E'] then (frameOf bytes).map .parse
  else if name = ['S', 'E', 'A', 'L', '5'] then if 2 ≤ bytes.length then some (.seal5 bytes) else none
  else if name = ['S', 'E', 'A', 'L', '1', '6'] then if 2 ≤ bytes.length then some (.seal16 bytes) else none
  else none

/-- What a line of assembler text holds (R76). -/
inductive Line where
  | blank
  | operation (i : Instr)
  | pseudo (p : Pseudo)
deriving DecidableEq, Repr

/-- A line of assembler text: a `;` starts a comment to the end of the line; none if the line is not of the form R76
gives. -/
def parseLine (line : Text) : Option Line :=
  let code := trim (line.takeWhile (· != ';'))
  let mnemonic := code.takeWhile (fun c => !isBlank c)
  let xs := operands (code.dropWhile (fun c => !isBlank c))
  if code = [] then some .blank
  else
    match parseOperation mnemonic xs with
    | some i => some (.operation i)
    | none => ((parseBytes xs).bind (parsePseudo mnemonic)).map .pseudo

/-- The operations a line stands for (R76, R77). -/
def Line.operations : Line → List Instr
  | .blank => []
  | .operation i => [i]
  | .pseudo p => p.expand

/-- The operations a program text stands for; none if one of its lines is not of the form R76 gives. -/
def assemble : List Text → Option (List Instr)
  | [] => some []
  | line :: lines =>
    match parseLine line, assemble lines with
    | some l, some is => some (l.operations ++ is)
    | _, _ => none

/-- The sixteen hexadecimal digits. -/
def hexDigits : Text := ['0', '1', '2', '3', '4', '5', '6', '7', '8', '9', 'A', 'B', 'C', 'D', 'E', 'F']

/-- A byte operand in the form `0x00` to `0xFF` (R76). -/
def byteText (b : Byte) : Text := ['0', 'x', hexDigits.getD (b.toNat / 16) '0', hexDigits.getD (b.toNat % 16) '0']

/-- The name of a selector, or the number of the one that has no name (R63, R76). -/
def selectorText : Selector → Text
  | .status => ['S', 'T', 'A', 'T', 'U', 'S']
  | .payload => ['P', 'A', 'Y', 'L', 'O', 'A', 'D']
  | .b6 => ['B', '6']
  | .b7 => ['B', '7']
  | .trailer => ['T', 'R', 'A', 'I', 'L', 'E', 'R']
  | .count => ['C', 'O', 'U', 'N', 'T']
  | .faults => ['F', 'A', 'U', 'L', 'T', 'S']
  | .reserved => ['7']

/-- An operation as one line of assembler text (R76). -/
def Instr.text (i : Instr) : Text :=
  match i with
  | .c5bit d | .c16bit d => Instr.mnemonic i ++ [' ', if d then '1' else '0']
  | .c5byte b | .c16byte b | .vpush b => Instr.mnemonic i ++ ' ' :: byteText b
  | .vread sel => Instr.mnemonic i ++ ' ' :: selectorText sel
  | .c5init | .c5read | .c16init | .c16read | .vclr | .vcheck => Instr.mnemonic i

end Sys2Proof.Machine
end

