-- ==== Sys2Proof/Machine/Framing.lean ====
section
/-! DEFINITION. Outbound frames: `seal5`, `seal16` and the three frame shapes built with them (spec 42_tx_framing.md
R140 to R143, 30_encoding.md R66 to R68). They are values the host holds, not state of the block (10_state.md R35). -/

namespace Sys2Proof.Machine

/-- `seal5(body)`: the body and its trailer, `zext_8(crc5(body[2..k]))` (R140, R44). R140 is about `k >= 2`
(notes/assumptions/18.md). -/
def seal5 (body : List Byte) : List Byte := body ++ [(crc5 (body.drop 2)).setWidth 8]

/-- `seal16(body)`: the body and its two CRC bytes, high byte first (R141). R141 is about `k >= 2`
(notes/assumptions/18.md). -/
def seal16 (p : Crc16Params) (body : List Byte) : List Byte := body ++ bytes16BE (crc16 p (body.drop 2))

/-- `frame_short(opc, chip, reg)` (R142, R66). -/
def frameShort (opc chip reg : Byte) : List Byte := seal5 (Config.preTx ++ [opc, 0x05, chip, reg])

/-- `frame_long(opc, chip, reg, value)` (R142, R67). -/
def frameLong (opc chip reg : Byte) (value : Word32) : List Byte :=
  seal5 (Config.preTx ++ [opc, 0x09, chip, reg] ++ bytesBE value)

/-- The two job frames, by their number of midstates (R68, R143). -/
inductive JobKind where
  | oneMidstate
  | fourMidstates
deriving DecidableEq, Repr

/-- `N`, the number of midstates (R68). -/
def JobKind.midstates : JobKind → Nat
  | .oneMidstate => 1
  | .fourMidstates => 4

/-- The length byte of a job frame, total length minus 2 (R71, D16; notes/assumptions/19.md). -/
def JobKind.lengthByte : JobKind → Byte
  | .oneMidstate => 0x36
  | .fourMidstates => 0x96

/-- The fields of a job frame that the host supplies beside its midstates (R143). -/
structure JobFields where
  opc        : Byte
  lenb       : Byte
  jobId      : Byte
  count      : Byte
  nBits      : Word32
  nTime      : Word32
  merkleRoot : Word32
deriving DecidableEq, Repr

/-- The body of a job frame, `f[0]` to `f[L-3]` (R143, R68). -/
def jobBody {n : Nat} (j : JobFields) (mid : Vector (Vector Byte 32) n) : List Byte :=
  Config.preTx ++ [j.opc, j.lenb, j.jobId, j.count, 0x00, 0x00, 0x00, 0x00]
    ++ bytesLE j.nBits ++ bytesLE j.nTime ++ bytesLE j.merkleRoot
    ++ mid.toList.flatMap Vector.toList

/-- `frame_job(N, opc, lenb, job_id, count, n_bits, n_time, merkle_root, mid)` (R143). -/
def frameJob (p : Crc16Params) (k : JobKind) (j : JobFields) (mid : Vector (Vector Byte 32) k.midstates) : List Byte :=
  seal16 p (jobBody j mid)

end Sys2Proof.Machine
end

