-- ==== Sys2Proof/Safety.lean ====
section
/-! DEFINITION. What statements about the block are written in: a run, a run in which nothing went wrong (spec
60_exceptions.md R204), the states a run can reach (10_state.md R22 to R28, R34), the units of the block and their
registers (00_scope.md R1, 10_state.md R33), and the bits an operation feeds to a generator (R107, R129). -/

namespace Sys2Proof.Machine

/-- `n` steps of the block. -/
def run (n : Nat) (s : State) : Host.Outcome State Fault Refusal := Host.Core.run Sys2Proof.core n s

/-- Nothing went wrong: "The only "gone wrong" outcome is a set bit of `FLT`" (R231, R204). -/
def State.clean (s : State) : Bool := s.flt == 0

/-- `n` steps end in a state in which nothing went wrong. -/
def SafeRun (n : Nat) (s : State) : Prop := ∃ t, run n s = .next t ∧ t.clean = true

/-- The states a run can reach: at most nine bytes are held, and the verdict and the result registers are either cleared
or what `validate` gives for the nine bytes held (R22, R23, R24, R34, R163). -/
def State.Consistent (s : State) : Prop :=
  s.rxb.length ≤ 9 ∧
    (s.results = .cleared ∨ ∃ f : Frame, s.rxb = f.toList ∧ s.results = validate Config.regAddrSet f)

/-- The three units (R1). -/
inductive BlockUnit where
  | crc5
  | crc16
  | validator
deriving DecidableEq, Repr

/-- The unit an operation belongs to (R61). -/
def unitOf : Instr → BlockUnit
  | .c5init | .c5bit _ | .c5byte _ | .c5read => .crc5
  | .c16init | .c16bit _ | .c16byte _ | .c16read => .crc16
  | .vclr | .vpush _ | .vcheck | .vread _ => .validator

/-- The validator's registers (R22 to R28). -/
def State.validatorRegs (s : State) : List Byte × CheckResult := (s.rxb, s.results)

/-- Two states agree on the registers of a unit. -/
def State.agreeOn (u : BlockUnit) (s t : State) : Prop :=
  match u with
  | .crc5 => s.c5 = t.c5
  | .crc16 => s.c16 = t.c16
  | .validator => s.validatorRegs = t.validatorRegs

/-- The operations that read a register and return it (R62, R180). -/
def isRead : Instr → Bool
  | .c5read | .c16read | .vread _ => true
  | .c5init | .c5bit _ | .c5byte _ | .c16init | .c16bit _ | .c16byte _ | .vclr | .vpush _ | .vcheck => false

/-- The operations that leave a collected frame and its verdict alone: those of the two generators, and the
validator's own read (R226). -/
def keepsResults : Instr → Bool
  | .c5init | .c5bit _ | .c5byte _ | .c5read | .c16init | .c16bit _ | .c16byte _ | .c16read | .vread _ => true
  | .vclr | .vpush _ | .vcheck => false

/-- The bits an operation feeds to the CRC-5 generator, in order (R107). -/
def crc5Fed : Instr → List Bool
  | .c5bit d => [d]
  | .c5byte b => bitsMsbFirst b
  | .c5init | .c5read | .c16init | .c16bit _ | .c16byte _ | .c16read | .vclr | .vpush _ | .vcheck | .vread _ => []

/-- The bits an operation feeds to the CRC-16 generator, in order (R121, R126, R129). -/
def crc16Fed (p : Crc16Params) : Instr → List Bool
  | .c16bit d => [d]
  | .c16byte b => crc16order p b
  | .c5init | .c5bit _ | .c5byte _ | .c5read | .c16init | .c16read | .vclr | .vpush _ | .vcheck | .vread _ => []

/-- The bytes an operation pushes into the frame buffer. -/
def pushed : Instr → List Byte
  | .vpush b => [b]
  | .c5init | .c5bit _ | .c5byte _ | .c5read | .c16init | .c16bit _ | .c16byte _ | .c16read | .vclr | .vcheck | .vread _ => []

/-- The usage fault a legal operation raises in a state, if any: VPUSH on a full buffer, VCHECK on one that is not full,
VREAD of a result register under a verdict that does not carry it (R204, R63). -/
def usageOf : Instr → State → Option Usage
  | .vpush _, s => if s.rxn = 9 then some .rxOverrun else none
  | .vcheck, s => if s.rxn = 9 then none else some .rxUnderrun
  | .vread .payload, s | .vread .b6, s => if s.vst = .reg ∨ s.vst = .job then none else some .noResult
  | .vread .b7, s | .vread .trailer, s =>
    if s.vst = .reg ∨ s.vst = .job ∨ s.vst = .errUnkreg then none else some .noResult
  | .vread .status, _ | .vread .count, _ | .vread .faults, _ => none
  | .vread .reserved, _ => some .illegalOp
  | .c5init, _ | .c5bit _, _ | .c5byte _, _ | .c5read, _ => none
  | .c16init, _ | .c16bit _, _ | .c16byte _, _ | .c16read, _ | .vclr, _ => none

/-- Issuing the word, whatever else waits on the port, is the usage fault ILLEGAL_OP and nothing else (R64, R204). -/
def RaisesIllegalOp (w : Command) : Prop :=
  ∀ (s : State) (q : List Event), s.pending = .command w :: q →
    step s = .next { s with flt := s.flt ||| 0b0001, resp := none, pending := q }

/-- The seven bytes of a 56-bit span, the most significant first (R171). -/
def spanOf (v : BitVec 56) : List Byte :=
  [v.extractLsb' 48 8, v.extractLsb' 40 8, v.extractLsb' 32 8, v.extractLsb' 24 8, v.extractLsb' 16 8,
    v.extractLsb' 8 8, v.extractLsb' 0 8]

end Sys2Proof.Machine
end

