-- ==== Sys2Proof/Certificates/Slice0/Obligations.lean ====
section
/-! DEFINITION. The statements about the block, for the provers. Each docstring names the rules of spec/ it formalises.
Frames are said by record updates (`{ s with … }` leaves every other register as it was) or register by register; the
block has no addressed memory (20_memory.md R40), so the bytes of a frame statement are those of `RXB`. -/

open Sys2Proof Sys2Proof.Machine

/-! ### Encoding -/

/-- Decode and encode agree: no operand bit is dropped (R61, R63, R65). -/
def Obligations.DecodeOfEncodeGivesTheInstruction : Prop :=
  ∀ i : Instr, i.wellFormed = true → decode (encode i) = .ok i

/-- Every legal word is the word of the operation it decodes to, so no two words mean the same operation (R61, R64,
92_eei_decisions.md D13). -/
def Obligations.EncodeOfDecodeGivesTheWord : Prop :=
  ∀ (w : Command) (i : Instr), decode w = .ok i → i.wellFormed = true ∧ encode i = w

/-- R64: which words are illegal, that issuing one sets `FLT[0]`, changes no other register and returns nothing, and
that 785 of the 4096 words are legal. -/
def Obligations.IllegalWordsRaiseIllegalOp : Prop :=
  (∀ w : Command, (¬ ∃ i, decode w = .ok i) ↔
    (w.op = 0x0 ∨ w.op = 0xD ∨ w.op = 0xE ∨ w.op = 0xF) ∨
    ((w.op = 0x1 ∨ w.op = 0x4 ∨ w.op = 0x5 ∨ w.op = 0x8 ∨ w.op = 0x9 ∨ w.op = 0xB) ∧ w.arg ≠ 0) ∨
    ((w.op = 0x2 ∨ w.op = 0x6) ∧ w.arg.extractLsb' 1 7 ≠ 0) ∨
    (w.op = 0xC ∧ (w.arg.extractLsb' 3 5 ≠ 0 ∨ w.arg.extractLsb' 0 3 = 7))) ∧
  (∀ w : Command, (¬ ∃ i, decode w = .ok i) → RaisesIllegalOp w) ∧
  (List.range 4096).countP (fun n => (decode (BitVec.ofNat 12 n)).isOk) = 785

/-- Words written out from the operation map decode to their operations (R61; 95_test_vectors.md section 2.7). -/
def Obligations.WrittenWordsDecode : Prop :=
  decode 0b000100000000 = .ok .c5init ∧
  decode 0b001000000001 = .ok (.c5bit true) ∧
  decode 0b001101010010 = .ok (.c5byte 0x52) ∧
  decode 0b011110100101 = .ok (.c16byte 0xA5) ∧
  decode 0b101000000000 = .ok (.vpush 0x00) ∧
  decode 0b101100000000 = .ok .vcheck ∧
  decode 0b110000000001 = .ok (.vread .payload)

/-- R76: an operation written as a line of assembler text, with or without a comment after it, is read as that
operation. The blanks and digits the text uses are the model's choice within R76 (notes/assumptions/20.md). -/
def Obligations.AssemblerReadsWhatItWrites : Prop :=
  ∀ i : Instr, i.wellFormed = true →
    parseLine (Instr.text i) = some (.operation i) ∧
    ∀ comment : Text, parseLine (Instr.text i ++ ';' :: comment) = some (.operation i)

/-! ### The step -/

/-- A step executes the operation its command word decodes to, on the state with that word taken from the port (R50,
R60). -/
def Obligations.StepRunsTheDecodedInstruction : Prop :=
  ∀ (s : State) (w : Command) (q : List Event) (i : Instr),
    s.pending = .command w :: q → decode w = .ok i → step s = exec i { s with pending := q }

/-- A word offered to the port, numbered as the opcode table numbers it, is what the very next step executes. How a word
comes to stand on the port, and how one wider than the port is treated, is the model's choice, no rule of the spec
(notes/assumptions/1.md, 13.md; DESIGN CHOICE). -/
def Obligations.FetchWordRunsNext : Prop :=
  ∀ (s : State) (nbits w : Nat) (i : Instr),
    decodeTableWord nbits w = some i → step (s.withFetchWord nbits w) = exec i s

/-- With nothing pending the block waits: only the response of the step before is gone. The model's choice
(notes/assumptions/3.md), from "After reset the block waits for the first command word" (R221). -/
def Obligations.WaitsWithNothingPending : Prop :=
  ∀ s : State, s.pending = [] → step s = .next { s with resp := none }

/-- R220: the reset event puts every register into its reset value, whatever the state before, and no other step clears
a bit of `FLT`. -/
def Obligations.ResetEventRestoresResetValues : Prop :=
  (∀ (s : State) (q : List Event), s.pending = .reset :: q →
    step s = .next
      { c5 := 0x1F, c16 := Config.crc16Params.init, rxb := [], vst := .idle, vpay := none, vb6 := none, vb7 := none,
        vtrl := none, flt := 0, pending := q, resp := none }) ∧
  (∀ s t : State, step s = .next t → (∀ q, s.pending ≠ .reset :: q) → s.flt &&& t.flt = s.flt)

/-- R222: C5INIT, C16INIT, VCLR from any state with `FLT == 0` leave the registers as reset does. -/
def Obligations.InitialisingEqualsReset : Prop :=
  ∀ s : State, s.flt = 0 →
    execAll [.c5init, .c16init, .vclr] s = .next { State.reset with pending := s.pending } ∧
    ∀ q : List Event, step { s with pending := .reset :: q } = .next { State.reset with pending := q }

/-- R231: every step answers a next state, and a run ends after as many steps as there are words (and reset events)
pending. -/
def Obligations.EveryRunEnds : Prop :=
  (∀ s : State, ∃ t, step s = .next t) ∧
  (∀ s : State, ∃ t, run s.pending.length s = .next t ∧ t.pending = [])

/-- R50: issued words take effect one at a time in the order issued: the run over the words of a list of operations is
the operations one after the other. -/
def Obligations.RunExecutesInIssueOrder : Prop :=
  ∀ (is : List Instr) (s : State), (∀ i ∈ is, i.wellFormed = true) →
    run is.length (offerAll is s) = execAll is s

/-! ### The CRC-5 unit -/

/-- R103. -/
def Obligations.C5InitLoadsInitialValue : Prop :=
  (∀ s : State, exec .c5init s = .next { s with c5 := 0x1F, resp := none }) ∧
  decode 0x100 = .ok .c5init ∧
  (∀ w : Command, w.op = 0x1 → w.arg ≠ 0 → RaisesIllegalOp w)

/-- R104 with the bits of R100: the accumulator shifts left and the feedback bit `c[4] ^ d` enters at bits 0 and 2. -/
def Obligations.C5BitShiftsAndFeedsBack : Prop :=
  (∀ (d : Bool) (s : State), exec (.c5bit d) s = .next { s with c5 := crc5bit s.c5 d, resp := none }) ∧
  (∀ (c : BitVec 5) (d : Bool),
    crc5bit c d = ((c <<< 1) &&& 0x1F) ^^^ (if (c.getLsbD 4 ^^ d) = true then 0x05 else 0x00) ∧
    (crc5bit c d).getLsbD 0 = (c.getLsbD 4 ^^ d) ∧
    (crc5bit c d).getLsbD 1 = c.getLsbD 0 ∧
    (crc5bit c d).getLsbD 2 = (c.getLsbD 1 ^^ (c.getLsbD 4 ^^ d)) ∧
    (crc5bit c d).getLsbD 3 = c.getLsbD 2 ∧
    (crc5bit c d).getLsbD 4 = c.getLsbD 3) ∧
  decode 0x200 = .ok (.c5bit false) ∧ decode 0x201 = .ok (.c5bit true) ∧
  (∀ w : Command, w.op = 0x2 → w.arg.extractLsb' 1 7 ≠ 0 → RaisesIllegalOp w) ∧
  crc5bit 0x1F false = 0x1B ∧ crc5bit 0x1F true = 0x1E

/-- R105 and R101: C5BYTE feeds the eight bits of its byte, most significant first, and equals the eight C5BITs. -/
def Obligations.C5ByteIsEightBitsMsbFirst : Prop :=
  (∀ (b : Byte) (s : State),
    exec (.c5byte b) s = .next { s with c5 := crc5byte s.c5 b, resp := none } ∧
    execAll [.c5bit (b.getLsbD 7), .c5bit (b.getLsbD 6), .c5bit (b.getLsbD 5), .c5bit (b.getLsbD 4),
      .c5bit (b.getLsbD 3), .c5bit (b.getLsbD 2), .c5bit (b.getLsbD 1), .c5bit (b.getLsbD 0)] s = exec (.c5byte b) s) ∧
  (∀ (c : BitVec 5) (b : Byte),
    crc5byte c b =
      crc5bit (crc5bit (crc5bit (crc5bit (crc5bit (crc5bit (crc5bit (crc5bit c (b.getLsbD 7)) (b.getLsbD 6))
        (b.getLsbD 5)) (b.getLsbD 4)) (b.getLsbD 3)) (b.getLsbD 2)) (b.getLsbD 1)) (b.getLsbD 0)) ∧
  (∀ b : Byte, decode (0x3#4 ++ b) = .ok (.c5byte b)) ∧
  crc5byte 0x1F 0x00 = 0x0F ∧
  (bitsMsbFirst 0x53).scanl crc5bit 0x1F = [0x1F, 0x1B, 0x16, 0x09, 0x17, 0x0B, 0x16, 0x0C, 0x1D]

/-- R106: C5READ returns `C5` in the low five bits of a word whose other bits are zero and changes no register. -/
def Obligations.C5ReadReturnsAccumulator : Prop :=
  (∀ s : State, exec .c5read s = .next { s with resp := some (zext32 s.c5) }) ∧
  (∀ c : BitVec 5, (zext32 c).toNat = c.toNat) ∧
  decode 0x400 = .ok .c5read ∧
  (∀ w : Command, w.op = 0x4 → w.arg ≠ 0 → RaisesIllegalOp w) ∧
  (∀ s : State, ∃ t,
    execAll [.c5init, .c5byte 0x53, .c5byte 0x05, .c5byte 0x00, .c5byte 0x00, .c5read] s = .next t ∧
    t.resp = some 0x00000003)

/-- R107: after C5INIT, or after reset, `C5` is the fold of the one-bit step from 0x1F over the bits fed since, whatever
other operations are mixed in; and it is `crc5(bytes)` when the bits fed are those of `bytes`. -/
def Obligations.Crc5StreamingEqualsFunction : Prop :=
  ∀ (s : State) (is : List Instr), (∀ i ∈ is, i.wellFormed = true ∧ i ≠ .c5init) →
    (∃ t, run (is.length + 1) (offerAll (.c5init :: is) s) = .next t ∧
      t.c5 = crc5bits 0x1F (is.flatMap crc5Fed) ∧
      ∀ bytes : List Byte, is.flatMap crc5Fed = bytes.flatMap bitsMsbFirst → t.c5 = crc5 bytes) ∧
    (∃ t, run (is.length + 1) { s with pending := .reset :: (offerAll is s).pending } = .next t ∧
      t.c5 = crc5bits 0x1F (is.flatMap crc5Fed) ∧
      ∀ bytes : List Byte, is.flatMap crc5Fed = bytes.flatMap bitsMsbFirst → t.c5 = crc5 bytes)

/-- R108: feeding five bits from accumulator `c` leaves 0x00 exactly when they are the five bits of `c`, top bit
first; the one-bit step is undone as R108 says, and for a fixed tail of five bits start state and final state determine
each other. -/
def Obligations.CheckBitsLeaveZero : Prop :=
  (∀ c t : BitVec 5,
    crc5bits c [t.getLsbD 4, t.getLsbD 3, t.getLsbD 2, t.getLsbD 1, t.getLsbD 0] = 0x00 ↔ t = c) ∧
  (∀ (c : BitVec 5) (d : Bool),
    c.getLsbD 0 = (crc5bit c d).getLsbD 1 ∧
    c.getLsbD 1 = ((crc5bit c d).getLsbD 2 ^^ (crc5bit c d).getLsbD 0) ∧
    c.getLsbD 2 = (crc5bit c d).getLsbD 3 ∧
    c.getLsbD 3 = (crc5bit c d).getLsbD 4 ∧
    c.getLsbD 4 = ((crc5bit c d).getLsbD 0 ^^ d)) ∧
  (∀ t : BitVec 5, Function.Bijective
    fun c => crc5bits c [t.getLsbD 4, t.getLsbD 3, t.getLsbD 2, t.getLsbD 1, t.getLsbD 0])

/-- R109. -/
def Obligations.Crc5IsLinear : Prop :=
  (∀ (c c' : BitVec 5) (d d' : Bool), crc5bit (c ^^^ c') (d ^^ d') = crc5bit c d ^^^ crc5bit c' d') ∧
  (∀ (c : BitVec 5) (b : Byte), crc5byte c b = crc5byte c 0x00 ^^^ crc5byte 0x00 b) ∧
  crc5byte 0x00 0x00 = 0x00

/-! ### The CRC-16 unit, for whatever value `CRC16_PARAMS` has -/

/-- R125. -/
def Obligations.C16InitLoadsInitialValue : Prop :=
  (∀ s : State, exec .c16init s = .next { s with c16 := Config.crc16Params.init, resp := none }) ∧
  decode 0x500 = .ok .c16init ∧
  (∀ w : Command, w.op = 0x5 → w.arg ≠ 0 → RaisesIllegalOp w) ∧
  Crc16Params.recommended.init = 0xFFFF

/-- R126 with the bits of R120: the accumulator shifts left and, where the feedback bit `c[15] ^ d` is 1, the
polynomial is exclusive-ored in. -/
def Obligations.C16BitShiftsAndFeedsBack : Prop :=
  (∀ (d : Bool) (s : State),
    exec (.c16bit d) s = .next { s with c16 := crc16bit Config.crc16Params s.c16 d, resp := none }) ∧
  (∀ (p : Crc16Params) (c : BitVec 16) (d : Bool) (i : Nat), i < 16 →
    (crc16bit p c d).getLsbD i =
      ((decide (0 < i) && c.getLsbD (i - 1)) ^^ ((c.getLsbD 15 ^^ d) && p.poly.getLsbD i))) ∧
  decode 0x600 = .ok (.c16bit false) ∧ decode 0x601 = .ok (.c16bit true) ∧
  (∀ w : Command, w.op = 0x6 → w.arg.extractLsb' 1 7 ≠ 0 → RaisesIllegalOp w) ∧
  crc16bit .recommended 0xFFFF false = 0xEFDF ∧ crc16bit .recommended 0xFFFF true = 0xFFFE

/-- R127 and R121: C16BYTE equals eight C16BITs in the order `refin` says. -/
def Obligations.C16ByteIsEightBitsInRefinOrder : Prop :=
  (∀ (b : Byte) (s : State),
    exec (.c16byte b) s = .next { s with c16 := crc16byte Config.crc16Params s.c16 b, resp := none } ∧
    execAll
      (if Config.crc16Params.refin then
        [.c16bit (b.getLsbD 0), .c16bit (b.getLsbD 1), .c16bit (b.getLsbD 2), .c16bit (b.getLsbD 3),
          .c16bit (b.getLsbD 4), .c16bit (b.getLsbD 5), .c16bit (b.getLsbD 6), .c16bit (b.getLsbD 7)]
      else
        [.c16bit (b.getLsbD 7), .c16bit (b.getLsbD 6), .c16bit (b.getLsbD 5), .c16bit (b.getLsbD 4),
          .c16bit (b.getLsbD 3), .c16bit (b.getLsbD 2), .c16bit (b.getLsbD 1), .c16bit (b.getLsbD 0)]) s =
      exec (.c16byte b) s) ∧
  (∀ (p : Crc16Params) (c : BitVec 16) (b : Byte),
    crc16byte p c b =
      (List.range 8).foldl (fun c k => crc16bit p c (b.getLsbD (if p.refin then k else 7 - k))) c) ∧
  (∀ b : Byte, decode (0x7#4 ++ b) = .ok (.c16byte b)) ∧
  (bitsMsbFirst 0x21).scanl (crc16bit .recommended) 0xFFFF =
    [0xFFFF, 0xEFDF, 0xCF9F, 0x9F3E, 0x2E5D, 0x5CBA, 0xB974, 0x62C9, 0xD5B3] ∧
  crc16byte .recommended 0xFFFF 0x21 = 0xD5B3 ∧
  crc16byte .recommended 0xFFFF 0x00 = 0xE1F0

/-- R128 and R123: C16READ returns the finished value (bits reversed if `refout`, then exclusive-ored with `xorout`),
zero-extended, and keeps the unfinished accumulator. -/
def Obligations.C16ReadReturnsFinishedValue : Prop :=
  (∀ s : State, exec .c16read s = .next { s with resp := some (zext32 (crc16fin Config.crc16Params s.c16)) }) ∧
  (∀ c : BitVec 16, (zext32 c).toNat = c.toNat) ∧
  (∀ (p : Crc16Params) (c : BitVec 16) (i : Nat), i < 16 →
    (crc16fin p c).getLsbD i = ((if p.refout then c.getLsbD (15 - i) else c.getLsbD i) ^^ p.xorout.getLsbD i)) ∧
  decode 0x800 = .ok .c16read ∧
  (∀ w : Command, w.op = 0x8 → w.arg ≠ 0 → RaisesIllegalOp w) ∧
  crc16 .recommended [0x31, 0x32, 0x33, 0x34, 0x35, 0x36, 0x37, 0x38, 0x39] = 0x29B1

/-- R129: after C16INIT, or after reset, and any other operations, when the bits fed since are those of `bytes`, `C16` is
`crc16acc(bytes)` and C16READ then returns `crc16(bytes)`. After C16INIT, beyond R129, `C16` is also the fold of the
one-bit step from `init` over whatever bits were fed. -/
def Obligations.Crc16StreamingEqualsFunction : Prop :=
  ∀ (s : State) (is : List Instr), (∀ i ∈ is, i.wellFormed = true ∧ i ≠ .c16init) →
    (∃ t, run (is.length + 1) (offerAll (.c16init :: is) s) = .next t ∧
      t.c16 = crc16bits Config.crc16Params Config.crc16Params.init (is.flatMap (crc16Fed Config.crc16Params)) ∧
      ∀ bytes : List Byte,
        is.flatMap (crc16Fed Config.crc16Params) = bytes.flatMap (crc16order Config.crc16Params) →
        t.c16 = crc16acc Config.crc16Params bytes ∧
        exec .c16read t = .next { t with resp := some (zext32 (crc16 Config.crc16Params bytes)) }) ∧
    (∃ t, run (is.length + 1) { s with pending := .reset :: (offerAll is s).pending } = .next t ∧
      ∀ bytes : List Byte,
        is.flatMap (crc16Fed Config.crc16Params) = bytes.flatMap (crc16order Config.crc16Params) →
        t.c16 = crc16acc Config.crc16Params bytes ∧
        exec .c16read t = .next { t with resp := some (zext32 (crc16 Config.crc16Params bytes)) })

/-- R130: in the plain case the accumulator's own sixteen bits, most significant first, leave it 0x0000, so a sealed job
frame has residue zero. -/
def Obligations.Crc16ResidueIsZeroInThePlainCase : Prop :=
  ∀ p : Crc16Params, p.refin = false → p.refout = false → p.xorout = 0 →
    (∀ c : BitVec 16, crc16bits p c ((bytes16BE c).flatMap bitsMsbFirst) = 0x0000) ∧
    (∀ bytes : List Byte, crc16 p (bytes ++ bytes16BE (crc16 p bytes)) = 0x0000) ∧
    (∀ (k : JobKind) (j : JobFields) (mid : Vector (Vector Byte 32) k.midstates),
      crc16 p ((frameJob p k j mid).drop 2) = 0x0000)

/-- The bit step of the recommended instance, bit by bit, and its customary check value. The instance is general
knowledge, not a rule (R131; notes/assumptions/5.md). -/
def Obligations.RecommendedCrc16BitStep : Prop :=
  (∀ (c : BitVec 16) (d : Bool),
    (crc16bit .recommended c d).getLsbD 0 = (c.getLsbD 15 ^^ d) ∧
    (crc16bit .recommended c d).getLsbD 5 = (c.getLsbD 4 ^^ (c.getLsbD 15 ^^ d)) ∧
    (crc16bit .recommended c d).getLsbD 12 = (c.getLsbD 11 ^^ (c.getLsbD 15 ^^ d)) ∧
    ∀ i : Nat, 1 ≤ i → i ≤ 15 → i ≠ 5 → i ≠ 12 → (crc16bit .recommended c d).getLsbD i = c.getLsbD (i - 1)) ∧
  crc16 .recommended [0x31, 0x32, 0x33, 0x34, 0x35, 0x36, 0x37, 0x38, 0x39] = 0x29B1

/-! ### Both generators -/

/-- R224 and R223: reading does not re-initialise, so bytes fed without an INIT extend the span before them. -/
def Obligations.SpansMergeWithoutInit : Prop :=
  ∀ (s : State) (a b : List Byte),
    (∃ t u, execAll (crc5Sequence a) s = .next t ∧ t.resp = some (zext32 (crc5 a)) ∧
      execAll (b.map .c5byte ++ [.c5read]) t = .next u ∧ u.resp = some (zext32 (crc5 (a ++ b)))) ∧
    (∃ t u, execAll (crc16Sequence a) s = .next t ∧ t.resp = some (zext32 (crc16 Config.crc16Params a)) ∧
      execAll (b.map .c16byte ++ [.c16read]) t = .next u ∧
      u.resp = some (zext32 (crc16 Config.crc16Params (a ++ b))))

/-- R77, the first three rows: the expansion of each pseudo-operation, run from any state, and the response of its last
operation. -/
def Obligations.PseudoOperationsRespond : Prop :=
  (∀ (s : State) (bytes : List Byte), ∃ t,
    run (bytes.length + 2) (offerAll (Pseudo.crc5 bytes).expand s) = .next t ∧
    t = { s with c5 := crc5 bytes, resp := some (zext32 (crc5 bytes)) }) ∧
  (∀ (s : State) (bytes : List Byte), ∃ t,
    run (bytes.length + 2) (offerAll (Pseudo.crc16 bytes).expand s) = .next t ∧
    t = { s with c16 := crc16acc Config.crc16Params bytes, resp := some (zext32 (crc16 Config.crc16Params bytes)) }) ∧
  (∀ (s : State) (f : Frame), ∃ t,
    run 12 (offerAll (Pseudo.parse f).expand s) = .next t ∧
    t.resp = some (zext32 (validate Config.regAddrSet f).vst.code))

/-! ### Outbound frames -/

/-- R140: the sealed frame is the body and one trailer byte with bits 7:5 zero and the CRC-5 of the body after its
preamble in bits 4:0, and it is what SEAL5's operations and the host's append give. -/
def Obligations.Seal5AppendsTheCrc5Trailer : Prop :=
  (∀ body : List Byte, 2 ≤ body.length →
    (seal5 body).length = body.length + 1 ∧
    (∃ t : Byte, seal5 body = body ++ [t] ∧ t.extractLsb' 5 3 = 0 ∧ t.extractLsb' 0 5 = crc5 (body.drop 2) ∧
      (body.length = 2 → t = 0x1F)) ∧
    ∀ s : State, ∃ u r, execAll (Pseudo.seal5 body).expand s = .next u ∧ u.resp = some r ∧ u.flt = s.flt ∧
      appendTrailer body r = seal5 body) ∧
  seal5 [0x55, 0xAA, 0x52, 0x05, 0x00, 0x00] = [0x55, 0xAA, 0x52, 0x05, 0x00, 0x00, 0x0A]

/-- R141: the sealed frame is the body and the two bytes of the CRC-16 of the body after its preamble, high byte first,
and it is what SEAL16's operations and the host's append give. Worked example, under the recommended instance: the frame
J1 of 95_test_vectors.md section 2.4 ends in 0x85, 0x8D. -/
def Obligations.Seal16AppendsTheCrc16BigEndian : Prop :=
  (∀ body : List Byte, 2 ≤ body.length →
    (∀ p : Crc16Params,
      (seal16 p body).length = body.length + 2 ∧
      ∃ hi lo : Byte, seal16 p body = body ++ [hi, lo] ∧ hi ++ lo = crc16 p (body.drop 2)) ∧
    ∀ s : State, ∃ u r, execAll (Pseudo.seal16 body).expand s = .next u ∧ u.resp = some r ∧ u.flt = s.flt ∧
      appendCrc16 body r = seal16 Config.crc16Params body) ∧
  (seal16 .recommended
    ([0x55, 0xAA, 0x21, 0x36, 0x04, 0x01, 0x00, 0x00, 0x00, 0x00, 0xFF, 0xFF, 0x00, 0x1D, 0x29, 0xAB, 0x5F, 0x49,
      0x4A, 0x5E, 0x1E, 0x4B] ++ (List.range 32).map (BitVec.ofNat 8))).drop 54 = [0x85, 0x8D]

/-- R66 and R67, with R142's worked example: the two control frames byte by byte. -/
def Obligations.ControlFrameLayout : Prop :=
  (∀ opc chip reg : Byte,
    frameShort opc chip reg =
      [0x55, 0xAA, opc, 0x05, chip, reg, (crc5 [opc, 0x05, chip, reg]).setWidth 8]) ∧
  (∀ (opc chip reg v3 v2 v1 v0 : Byte),
    frameLong opc chip reg (be32 v3 v2 v1 v0) =
      [0x55, 0xAA, opc, 0x09, chip, reg, v3, v2, v1, v0,
        (crc5 [opc, 0x09, chip, reg, v3, v2, v1, v0]).setWidth 8]) ∧
  frameLong 0x51 0x00 0x80 0x00000000 = [0x55, 0xAA, 0x51, 0x09, 0x00, 0x80, 0x00, 0x00, 0x00, 0x00, 0x1C]

/-- R143 and R68: the job frames byte by byte; the four "starting nonce" bytes are zero, the three 32-bit fields are
little-endian, the midstates follow in order, and the CRC-16 covers `f[2..L-2]` and closes the frame big-endian. The
length byte of decision D16 is the model's `JobKind.lengthByte` (notes/assumptions/19.md). -/
def Obligations.JobFrameLayout : Prop :=
  ∀ (p : Crc16Params) (k : JobKind) (opc lenb jobId count b0 b1 b2 b3 t0 t1 t2 t3 m0 m1 m2 m3 : Byte)
    (mid : Vector (Vector Byte 32) k.midstates),
    let f := frameJob p k ⟨opc, lenb, jobId, count, le32 b0 b1 b2 b3, le32 t0 t1 t2 t3, le32 m0 m1 m2 m3⟩ mid
    let covered := [opc, lenb, jobId, count, 0x00, 0x00, 0x00, 0x00, b0, b1, b2, b3, t0, t1, t2, t3, m0, m1, m2, m3]
      ++ mid.toList.flatMap Vector.toList
    f = [0x55, 0xAA] ++ covered ++ [(crc16 p covered).extractLsb' 8 8, (crc16 p covered).extractLsb' 0 8] ∧
    covered.length = 20 + 32 * k.midstates ∧
    k.lengthByte.toNat = 22 + 32 * k.midstates

/-- R144, for every input. -/
def Obligations.FrameSizes : Prop :=
  (∀ opc chip reg : Byte, (frameShort opc chip reg).length = 7) ∧
  (∀ (opc chip reg : Byte) (v : Word32), (frameLong opc chip reg v).length = 11) ∧
  (∀ (p : Crc16Params) (j : JobFields) (mid : Vector (Vector Byte 32) JobKind.oneMidstate.midstates),
    (frameJob p .oneMidstate j mid).length = 56) ∧
  (∀ (p : Crc16Params) (j : JobFields) (mid : Vector (Vector Byte 32) JobKind.fourMidstates.midstates),
    (frameJob p .fourMidstates j mid).length = 152)

/-- R146: with its trailer included an outbound span feeds three zero bits between message and check bits, and the two
worked frames leave 0x1A and 0x1B; recomputing without the trailer gives the trailer's low five bits. -/
def Obligations.OutboundTrailerIsNoZeroResidue : Prop :=
  (∀ body : List Byte, 2 ≤ body.length →
    crc5 ((seal5 body).drop 2) =
      crc5bits (crc5 (body.drop 2)) ([false, false, false] ++
        [(crc5 (body.drop 2)).getLsbD 4, (crc5 (body.drop 2)).getLsbD 3, (crc5 (body.drop 2)).getLsbD 2,
          (crc5 (body.drop 2)).getLsbD 1, (crc5 (body.drop 2)).getLsbD 0]) ∧
    ∃ t : Byte, seal5 body = body ++ [t] ∧ trailerChk t = crc5 (body.drop 2)) ∧
  crc5 [0x52, 0x05, 0x00, 0x00, 0x0A] = 0x1A ∧
  crc5 [0x51, 0x09, 0x00, 0x80, 0x00, 0x00, 0x00, 0x00, 0x1C] = 0x1B

/-! ### The validator -/

/-- R160: VCLR empties the buffer, the verdict and the four result registers and nothing else; `FLT` stays. -/
def Obligations.VclrEmptiesTheValidator : Prop :=
  (∀ s : State, exec .vclr s = .next
    { s with rxb := [], vst := .idle, vpay := none, vb6 := none, vb7 := none, vtrl := none, resp := none }) ∧
  decode 0x900 = .ok .vclr ∧
  (∀ w : Command, w.op = 0x9 → w.arg ≠ 0 → RaisesIllegalOp w)

/-- R161: VPUSH stores its byte at index `RXN` and adds one, every other byte of the buffer and every other register as
before; with nine bytes held it is RX_OVERRUN and changes nothing else. In a state a run can reach a successful VPUSH
finds `VST == V_IDLE`. -/
def Obligations.VpushStoresAtRxn : Prop :=
  (∀ (b : Byte) (s : State), s.rxn ≠ 9 → ∃ t, exec (.vpush b) s = .next t ∧
    t = { s with rxb := t.rxb, resp := none } ∧
    t.rxb[s.rxn]? = some b ∧ t.rxn = s.rxn + 1 ∧ ∀ j : Nat, j ≠ s.rxn → t.rxb[j]? = s.rxb[j]?) ∧
  (∀ (b : Byte) (s : State), s.rxn = 9 →
    exec (.vpush b) s = .next { s with flt := s.flt ||| 0b0010, resp := none }) ∧
  (∀ b : Byte, decode (0xA#4 ++ b) = .ok (.vpush b)) ∧
  (∀ s : State, s.Consistent → s.rxn ≠ 9 → s.vst = .idle)

/-- R162: the five outcomes of `validate`, in the source's order, for any set of known addresses. -/
def Obligations.ValidateOutcomes : Prop :=
  ∀ (known : Byte → Bool) (f0 f1 f2 f3 f4 f5 f6 f7 f8 : Byte),
    let v := validate known ⟨f0, f1, f2, f3, f4, f5, f6, f7, f8⟩
    let residue := crc5 [f2, f3, f4, f5, f6, f7, f8]
    let payload : Word32 := f2 ++ f3 ++ f4 ++ f5
    (f0 ≠ 0xAA ∨ f1 ≠ 0x55 → v = ⟨.errPreamble, none, none, none, none⟩) ∧
    (f0 = 0xAA → f1 = 0x55 → residue ≠ 0x00 → v = ⟨.errCrc, none, none, none, none⟩) ∧
    (f0 = 0xAA → f1 = 0x55 → residue = 0x00 → f8.getLsbD 7 = true →
      v = ⟨.job, some payload, some f6, some f7, some f8⟩) ∧
    (f0 = 0xAA → f1 = 0x55 → residue = 0x00 → f8.getLsbD 7 = false → known f7 = false →
      v = ⟨.errUnkreg, none, none, some f7, some f8⟩) ∧
    (f0 = 0xAA → f1 = 0x55 → residue = 0x00 → f8.getLsbD 7 = false → known f7 = true →
      v = ⟨.reg, some payload, some f6, some f7, some f8⟩)

/-- R163: VCHECK on nine bytes latches what `validate` gives and changes nothing else; on any other number it is
RX_UNDERRUN and changes nothing else. Worked example: scenario 3. -/
def Obligations.VcheckLatchesTheVerdict : Prop :=
  (∀ (s : State) (f : Frame), s.rxb = f.toList →
    exec .vcheck s = .next
      { s with
        vst := (validate Config.regAddrSet f).vst, vpay := (validate Config.regAddrSet f).vpay,
        vb6 := (validate Config.regAddrSet f).vb6, vb7 := (validate Config.regAddrSet f).vb7,
        vtrl := (validate Config.regAddrSet f).vtrl, resp := none }) ∧
  (∀ s : State, s.rxn = 9 → ∃ f : Frame, s.rxb = f.toList) ∧
  (∀ s : State, s.rxn ≠ 9 → exec .vcheck s = .next { s with flt := s.flt ||| 0b0100, resp := none }) ∧
  decode 0xB00 = .ok .vcheck ∧
  (∀ w : Command, w.op = 0xB → w.arg ≠ 0 → RaisesIllegalOp w) ∧
  (∀ s : State, s.rxb = [0xAA, 0x55, 0x13, 0x97, 0x18, 0x00, 0x00, 0x00, 0x06] →
    exec .vcheck s = .next
      { s with
        vst := .reg, vpay := some 0x13971800, vb6 := some 0x00, vb7 := some 0x00, vtrl := some 0x06, resp := none })

/-- R200 and R202: when each frame error is the verdict, which of several causes is reported, and what is recorded. -/
def Obligations.FrameErrorCausesAndPriority : Prop :=
  ∀ (s : State) (f : Frame), s.rxb = f.toList → ∃ t, exec .vcheck s = .next t ∧
    (t.vst = .errPreamble ↔ (f.f0 ≠ 0xAA ∨ f.f1 ≠ 0x55)) ∧
    (t.vst = .errCrc ↔ (f.f0 = 0xAA ∧ f.f1 = 0x55) ∧ crc5 [f.f2, f.f3, f.f4, f.f5, f.f6, f.f7, f.f8] ≠ 0x00) ∧
    (t.vst = .errUnkreg ↔ (f.f0 = 0xAA ∧ f.f1 = 0x55) ∧ crc5 [f.f2, f.f3, f.f4, f.f5, f.f6, f.f7, f.f8] = 0x00 ∧
      f.f8.getLsbD 7 = false ∧ Config.regAddrSet f.f7 = false) ∧
    (t.vst = .errPreamble ∨ t.vst = .errCrc → t.vpay = none ∧ t.vb6 = none ∧ t.vb7 = none ∧ t.vtrl = none) ∧
    (t.vst = .errUnkreg → t.vpay = none ∧ t.vb6 = none ∧ t.vb7 = some f.f7 ∧ t.vtrl = some f.f8) ∧
    (Verdict.errPreamble.code = 4 ∧ Verdict.errCrc.code = 5 ∧ Verdict.errUnkreg.code = 6)

/-- R166: with a good preamble, a good CRC and the type selector set the frame is a job response, whatever set of
register addresses is known. -/
def Obligations.JobResponseIsNeverLookedUp : Prop :=
  ∀ (known : Byte → Bool) (f : Frame), f.f0 = 0xAA → f.f1 = 0x55 → crc5 f.span = 0x00 → f.f8.getLsbD 7 = true →
    (validate known f).vst = .job ∧ validate known f = validate (fun _ => false) f

/-- R170: step 2 passes exactly when the low five bits of the trailer are the CRC-5 of the 51 bits before them, and the
operations named there return that CRC. -/
def Obligations.CheckInFiftyOneBitForm : Prop :=
  ∀ f : Frame,
    (crc5 f.span = 0x00 ↔ trailerChk f.f8 = crc5bits 0x1F
      ([f.f2, f.f3, f.f4, f.f5, f.f6, f.f7].flatMap bitsMsbFirst ++
        [f.f8.getLsbD 7, f.f8.getLsbD 6, f.f8.getLsbD 5])) ∧
    ∀ s : State, ∃ t,
      execAll [.c5init, .c5byte f.f2, .c5byte f.f3, .c5byte f.f4, .c5byte f.f5, .c5byte f.f6, .c5byte f.f7,
        .c5bit (f.f8.getLsbD 7), .c5bit (f.f8.getLsbD 6), .c5bit (f.f8.getLsbD 5), .c5read] s = .next t ∧
      t.resp = some (zext32 f.crc51)

/-- R171: for any choice of the 51 bits exactly one value of the five check bits passes, so 2^51 of the 2^56 spans
pass. -/
def Obligations.OneInThirtyTwoSpansPasses : Prop :=
  (∀ m : BitVec 51, ∃ chk : BitVec 5,
    crc5 (spanOf (m ++ chk)) = 0x00 ∧ ∀ chk' : BitVec 5, crc5 (spanOf (m ++ chk')) = 0x00 → chk' = chk) ∧
  Nat.card (Subtype fun v : BitVec 56 => crc5 (spanOf v) = 0x00) = 2 ^ 51

/-- R164 and R63: what each selector returns, when it may be read, and NO_RESULT when it may not; no register changes
but `FLT[3]`. Worked example: scenario 4. -/
def Obligations.VreadReturnsTheSelectedRegister : Prop :=
  (∀ s : State,
    exec (.vread .status) s = .next { s with resp := some (zext32 s.vst.code) } ∧
    exec (.vread .count) s = .next { s with resp := some (BitVec.ofNat 32 s.rxn) } ∧
    exec (.vread .faults) s = .next { s with resp := some (zext32 s.flt) }) ∧
  (∀ (s : State) (v : Word32), (s.vst = .reg ∨ s.vst = .job) → s.vpay = some v →
    exec (.vread .payload) s = .next { s with resp := some v }) ∧
  (∀ (s : State) (v : Byte), (s.vst = .reg ∨ s.vst = .job) → s.vb6 = some v →
    exec (.vread .b6) s = .next { s with resp := some (zext32 v) }) ∧
  (∀ (s : State) (v : Byte), (s.vst = .reg ∨ s.vst = .job ∨ s.vst = .errUnkreg) → s.vb7 = some v →
    exec (.vread .b7) s = .next { s with resp := some (zext32 v) }) ∧
  (∀ (s : State) (v : Byte), (s.vst = .reg ∨ s.vst = .job ∨ s.vst = .errUnkreg) → s.vtrl = some v →
    exec (.vread .trailer) s = .next { s with resp := some (zext32 v) }) ∧
  (∀ s : State, s.vst ≠ .reg → s.vst ≠ .job →
    exec (.vread .payload) s = .next { s with flt := s.flt ||| 0b1000, resp := none } ∧
    exec (.vread .b6) s = .next { s with flt := s.flt ||| 0b1000, resp := none }) ∧
  (∀ s : State, s.vst ≠ .reg → s.vst ≠ .job → s.vst ≠ .errUnkreg →
    exec (.vread .b7) s = .next { s with flt := s.flt ||| 0b1000, resp := none } ∧
    exec (.vread .trailer) s = .next { s with flt := s.flt ||| 0b1000, resp := none }) ∧
  (decode 0xC00 = .ok (.vread .status) ∧ decode 0xC01 = .ok (.vread .payload) ∧ decode 0xC02 = .ok (.vread .b6) ∧
    decode 0xC03 = .ok (.vread .b7) ∧ decode 0xC04 = .ok (.vread .trailer) ∧ decode 0xC05 = .ok (.vread .count) ∧
    decode 0xC06 = .ok (.vread .faults)) ∧
  (∀ s : State, s.rxb = [0xAA, 0x55, 0x97, 0xC3, 0x28, 0xB6, 0x01, 0x63, 0x9C] →
    ∃ t, exec .vcheck s = .next t ∧
      exec (.vread .status) t = .next { t with resp := some 0x00000002 } ∧
      exec (.vread .payload) t = .next { t with resp := some 0x97C328B6 } ∧
      exec (.vread .b6) t = .next { t with resp := some 0x00000001 } ∧
      exec (.vread .b7) t = .next { t with resp := some 0x00000063 } ∧
      exec (.vread .trailer) t = .next { t with resp := some 0x0000009C }) ∧
  (∀ w : Command, w.op = 0xC → w.arg.extractLsb' 3 5 ≠ 0 ∨ w.arg.extractLsb' 0 3 = 7 → RaisesIllegalOp w)

/-- R34: in every state a run can reach, which result registers hold a value under which verdict; and VREAD of one that
holds none is NO_RESULT, never a number. -/
def Obligations.ResultRegistersHoldAsTheTableSays : Prop :=
  ∀ s : State, s.Consistent →
    (s.vpay.isSome = true ↔ (s.vst = .reg ∨ s.vst = .job)) ∧
    (s.vb6.isSome = true ↔ (s.vst = .reg ∨ s.vst = .job)) ∧
    (s.vb7.isSome = true ↔ (s.vst = .reg ∨ s.vst = .job ∨ s.vst = .errUnkreg)) ∧
    (s.vtrl.isSome = true ↔ (s.vst = .reg ∨ s.vst = .job ∨ s.vst = .errUnkreg)) ∧
    (s.vpay = none → exec (.vread .payload) s = .next { s with flt := s.flt ||| 0b1000, resp := none }) ∧
    (s.vb6 = none → exec (.vread .b6) s = .next { s with flt := s.flt ||| 0b1000, resp := none }) ∧
    (s.vb7 = none → exec (.vread .b7) s = .next { s with flt := s.flt ||| 0b1000, resp := none }) ∧
    (s.vtrl = none → exec (.vread .trailer) s = .next { s with flt := s.flt ||| 0b1000, resp := none })

/-- R25, R26, R27, R28: in every state a run can reach, the result registers that hold a value are copies of the bytes
of the frame held; the trailer's type bit is 1 exactly for a job response and its check bits are the CRC-5 of the 51
bits before them. -/
def Obligations.ResultRegistersAreCopiesOfTheFrame : Prop :=
  ∀ s : State, s.Consistent →
    (∀ v, s.vpay = some v → ∃ f : Frame, s.rxb = f.toList ∧ v = f.f2 ++ f.f3 ++ f.f4 ++ f.f5) ∧
    (∀ v, s.vb6 = some v → s.rxb[6]? = some v) ∧
    (∀ v, s.vb7 = some v → s.rxb[7]? = some v) ∧
    (∀ v, s.vtrl = some v → s.rxb[8]? = some v ∧ (trailerTyp v = true ↔ s.vst = .job) ∧
      ∃ f : Frame, s.rxb = f.toList ∧ trailerChk v = f.crc51)

/-- R169 (and of R226 what stays): after a VCHECK on nine bytes, any operations of the generators and any reads keep the buffer, the
verdict and the results, and a second VCHECK writes the same again. -/
def Obligations.VcheckIsIdempotent : Prop :=
  ∀ (s : State) (is : List Instr), s.rxn = 9 → (∀ i ∈ is, keepsResults i = true) →
    ∃ t u v, exec .vcheck s = .next t ∧ execAll is t = .next u ∧ exec .vcheck u = .next v ∧
      t.rxb = s.rxb ∧ u.validatorRegs = t.validatorRegs ∧ v.validatorRegs = t.validatorRegs

/-- R173: PARSE from any state leaves the verdict and the results of `validate`, returns the verdict, raises no usage
fault, and leaves both generators alone. -/
def Obligations.ParseGivesTheVerdict : Prop :=
  ∀ (s : State) (f : Frame), ∃ t, run 12 (offerAll (Pseudo.parse f).expand s) = .next t ∧
    t.rxb = f.toList ∧ t.results = validate Config.regAddrSet f ∧
    t.resp = some (zext32 (validate Config.regAddrSet f).vst.code) ∧
    t.flt = s.flt ∧ t.c5 = s.c5 ∧ t.c16 = s.c16 ∧ t.pending = s.pending

/-- The bytes held after VCLR and any operations but VCLR and VCHECK are the bytes pushed, in order, the first nine of
them; a tenth sets RX_OVERRUN (R41, R161, R225). -/
def Obligations.BufferHoldsTheFirstNineBytesPushed : Prop :=
  ∀ (s : State) (is : List Instr), (∀ i ∈ is, i ≠ .vclr ∧ i ≠ .vcheck) →
    ∃ t, execAll (.vclr :: is) s = .next t ∧ t.rxb = (is.flatMap pushed).take 9 ∧
      (9 < (is.flatMap pushed).length → t.flt.getLsbD 1 = true)

/-! ### The whole block -/

/-- Every step keeps the invariant that the states a run can reach have: at most nine bytes held, and verdict and result
registers cleared or as `validate` gives them for the nine bytes held (R22, R23, R24, R34, R163). -/
def Obligations.EveryStepKeepsConsistency : Prop :=
  ∀ s t : State, s.Consistent → step s = .next t → t.Consistent

/-- The invariant holds right after reset (R220). -/
def Obligations.ResetIsConsistent : Prop := State.reset.Consistent

/-- R220, R20 to R29: the value of every register right after reset. -/
def Obligations.ResetValues : Prop :=
  State.reset.c5 = 0x1F ∧ State.reset.c16 = Config.crc16Params.init ∧ State.reset.rxb = [] ∧ State.reset.rxn = 0 ∧
  State.reset.vst.code = 0 ∧ State.reset.vpay = none ∧ State.reset.vb6 = none ∧ State.reset.vb7 = none ∧
  State.reset.vtrl = none ∧ State.reset.flt = 0

/-- R23: what writes `RXN`, and that it stays within 0 to 9. -/
def Obligations.RxnCountsAndStopsAtNine : Prop :=
  State.reset.rxn = 0 ∧
  (∀ (s t : State) (q : List Event), s.pending = .reset :: q → step s = .next t → t.rxn = 0) ∧
  (∀ (i : Instr) (s t : State), exec i s = .next t →
    (i = .vclr → t.rxn = 0) ∧
    (∀ b, i = .vpush b → s.rxn < 9 → t.rxn = s.rxn + 1) ∧
    (∀ b, i = .vpush b → s.rxn = 9 → t.rxn = 9 ∧ t.flt.getLsbD 1 = true) ∧
    (i ≠ .vclr → (∀ b, i ≠ .vpush b) → t.rxn = s.rxn)) ∧
  (∀ (n : Nat) (s t : State), s.rxn ≤ 9 → run n s = .next t → t.rxn ≤ 9)

/-- R24: the codes of the verdicts, `VST[2]` as the mark of an error, and what writes `VST`. -/
def Obligations.VstCodesAndWriters : Prop :=
  (Verdict.code .idle = 0 ∧ Verdict.code .reg = 1 ∧ Verdict.code .job = 2 ∧ Verdict.code .errPreamble = 4 ∧
    Verdict.code .errCrc = 5 ∧ Verdict.code .errUnkreg = 6) ∧
  (∀ v : Verdict, v.code.getLsbD 2 = true ↔ (v = .errPreamble ∨ v = .errCrc ∨ v = .errUnkreg)) ∧
  (∀ (i : Instr) (s t : State), exec i s = .next t →
    (i = .vclr → t.vst = .idle) ∧
    (i = .vcheck → s.rxn = 9 → t.vst ≠ .idle) ∧
    (i ≠ .vclr → i ≠ .vcheck → t.vst = s.vst)) ∧
  State.reset.vst = .idle ∧
  (∀ (s t : State) (q : List Event), s.pending = .reset :: q → step s = .next t → t.vst = .idle)

/-- R204 and R205: an illegal word raises ILLEGAL_OP and is not executed; in a state a run can reach, a legal operation
raises at most one usage fault, for the cause R204 gives, which sets its own bit, changes nothing else and returns
nothing; when it raises none, `FLT` is unchanged, and a VCHECK that raises one writes no verdict. -/
def Obligations.AtMostOneUsageFault : Prop :=
  (∀ w : Command, (¬ ∃ i, decode w = .ok i) → RaisesIllegalOp w) ∧
  ∀ (i : Instr) (s : State), i.wellFormed = true → s.Consistent →
    (usageOf i s = some .rxOverrun ↔ (∃ b, i = .vpush b) ∧ s.rxn = 9) ∧
    (usageOf i s = some .rxUnderrun ↔ i = .vcheck ∧ s.rxn ≠ 9) ∧
    (usageOf i s = some .noResult ↔
      (i = .vread .payload ∧ s.vpay = none) ∨ (i = .vread .b6 ∧ s.vb6 = none) ∨
      (i = .vread .b7 ∧ s.vb7 = none) ∨ (i = .vread .trailer ∧ s.vtrl = none)) ∧
    usageOf i s ≠ some .illegalOp ∧
    (usageOf i s = some .rxOverrun → exec i s = .next { s with flt := s.flt ||| 0b0010, resp := none }) ∧
    (usageOf i s = some .rxUnderrun → exec i s = .next { s with flt := s.flt ||| 0b0100, resp := none }) ∧
    (usageOf i s = some .noResult → exec i s = .next { s with flt := s.flt ||| 0b1000, resp := none }) ∧
    (usageOf i s = none → ∃ t, exec i s = .next t ∧ t.flt = s.flt)

/-- The first clause is R62's: of the operations only C5READ, C16READ and VREAD return a value, and they return one
exactly when they do not fault. The second clause is the model's choice, no rule of the spec: the steps that execute no
command word, the idle step (notes/assumptions/3.md, DEDUCED) and the reset event as an entry of the queue
(notes/assumptions/4.md, DESIGN CHOICE), return nothing. -/
def Obligations.OnlyReadsThatDoNotFaultRespond : Prop :=
  (∀ (i : Instr) (s : State), i.wellFormed = true → s.Consistent →
    ∃ t, exec i s = .next t ∧ (t.resp.isSome = true ↔ (isRead i = true ∧ usageOf i s = none))) ∧
  (∀ s t : State, (∀ (w : Command) (q : List Event), s.pending ≠ .command w :: q) → step s = .next t → t.resp = none)

/-- R52: a read changes no register but `FLT[3]`, so a second read returns the same value. -/
def Obligations.ReadsChangeNothing : Prop :=
  ∀ (i : Instr) (s : State), i.wellFormed = true → isRead i = true →
    ∃ t u, exec i s = .next t ∧ exec i t = .next u ∧
      t.c5 = s.c5 ∧ t.c16 = s.c16 ∧ t.rxb = s.rxb ∧ t.results = s.results ∧ t.pending = s.pending ∧
      (t.flt = s.flt ∨ (t.flt = s.flt ||| 0b1000 ∧ t.resp = none)) ∧
      (t.resp.isSome = true → u.resp = t.resp)

/-- R33: an operation leaves the registers of the other two units as they were, and what it does to its own unit and
what it returns depend on its own unit's registers only (VREAD FAULTS on `FLT` beside). -/
def Obligations.UnitsDoNotDisturbOneAnother : Prop :=
  ∀ (i : Instr) (s : State), ∃ t, exec i s = .next t ∧
    (∀ u : BlockUnit, u ≠ unitOf i → State.agreeOn u s t) ∧
    (∀ s' : State, State.agreeOn (unitOf i) s s' → (i = .vread .faults → s.flt = s'.flt) →
      ∃ t', exec i s' = .next t' ∧ State.agreeOn (unitOf i) t t' ∧ t'.resp = t.resp)

/-- R180, the column of writes, as the frame of every operation, with the faulting forms in it: what each class leaves
unchanged when it is executed. -/
def Obligations.OperationClassesAndFrames : Prop :=
  (∀ (i : Instr) (s t : State), exec i s = .next t → t.pending = s.pending) ∧
  (∀ (i : Instr) (s t : State), (i = .c5init ∨ (∃ d, i = .c5bit d) ∨ ∃ b, i = .c5byte b) → exec i s = .next t →
    t.c16 = s.c16 ∧ t.rxb = s.rxb ∧ t.results = s.results ∧ t.flt = s.flt ∧ t.resp = none) ∧
  (∀ (i : Instr) (s t : State), (i = .c16init ∨ (∃ d, i = .c16bit d) ∨ ∃ b, i = .c16byte b) → exec i s = .next t →
    t.c5 = s.c5 ∧ t.rxb = s.rxb ∧ t.results = s.results ∧ t.flt = s.flt ∧ t.resp = none) ∧
  (∀ s t : State, exec .vclr s = .next t → t.c5 = s.c5 ∧ t.c16 = s.c16 ∧ t.flt = s.flt ∧ t.resp = none) ∧
  (∀ (b : Byte) (s t : State), exec (.vpush b) s = .next t →
    t.c5 = s.c5 ∧ t.c16 = s.c16 ∧ t.results = s.results ∧ t.resp = none ∧
    (∀ j : Nat, j ≠ s.rxn → t.rxb[j]? = s.rxb[j]?) ∧
    (t.flt = s.flt ∨ (t.rxb = s.rxb ∧ t.flt = s.flt ||| 0b0010))) ∧
  (∀ s t : State, exec .vcheck s = .next t →
    t.c5 = s.c5 ∧ t.c16 = s.c16 ∧ t.rxb = s.rxb ∧ t.resp = none ∧
    (t.flt = s.flt ∨ (t.results = s.results ∧ t.flt = s.flt ||| 0b0100))) ∧
  (∀ (i : Instr) (s t : State), i.wellFormed = true → isRead i = true → exec i s = .next t →
    t.c5 = s.c5 ∧ t.c16 = s.c16 ∧ t.rxb = s.rxb ∧ t.results = s.results ∧
    (t.flt = s.flt ∨ ((∃ sel, i = .vread sel) ∧ t.flt = s.flt ||| 0b1000)))

/-- R29: over a run with no reset event every bit of `FLT` that is set stays set, so `FLT == 0` at its end says that no
usage fault was raised anywhere in it. -/
def Obligations.CleanEndMeansCleanRun : Prop :=
  ∀ (n : Nat) (s t : State), (∀ e ∈ s.pending, e ≠ .reset) → run n s = .next t → t.clean = true →
    ∀ k : Nat, k ≤ n → SafeRun k s

/-- R167 with the three constraints of R3: 0x00 and 0x80 resolve, 0xF0 does not. Of every other address nothing is
known (notes/assumptions/6.md). -/
def Obligations.KnownRegisterAddresses : Prop :=
  Config.regAddrSet 0x00 = true ∧ Config.regAddrSet 0x80 = true ∧ Config.regAddrSet 0xF0 = false
end

