-- ==== Sys2Proof/Laws/Decode.lean ====
section
/-! SUPPORT. The two fields of a command word, and what each part of the decoder accepts. -/

namespace Sys2Proof

@[simp] theorem op_of_word (o : BitVec 4) (a : Byte) : Command.op (o ++ a) = o := by
  simp only [Command.op]
  exact BitVec.extractLsb'_append_eq_left

@[simp] theorem arg_of_word (o : BitVec 4) (a : Byte) : Command.arg (o ++ a) = a := by
  simp only [Command.arg]
  exact BitVec.extractLsb'_append_eq_right

/-- A command word is its two fields, `op << 8 | arg` (R60). -/
theorem word_of_op_arg (w : Command) : (w.op ++ w.arg : Command) = w := by
  apply BitVec.eq_of_getLsbD_eq
  intro i hi
  have h : (w.op ++ w.arg : BitVec (4 + 8)).getLsbD i = if i < 8 then w.arg.getLsbD i else w.op.getLsbD (i - 8) :=
    BitVec.getLsbD_append
  rw [show BitVec.getLsbD (w.op ++ w.arg : Command) i = _ from h]
  by_cases h8 : i < 8
  · simp [h8, Command.arg]
  · simp [h8, Command.op, show i - 8 < 4 by omega, show 8 + (i - 8) = i by omega]

@[simp] theorem ofCode_code (sel : Selector) : Selector.ofCode sel.code = sel := by cases sel <;> rfl

theorem code_ofCode (c : BitVec 3) : (Selector.ofCode c).code = c := by revert c; decide

theorem decodeNoArg_ok {a : Byte} {i j : Instr} : decodeNoArg a i = .ok j ↔ a = 0 ∧ j = i := by
  unfold decodeNoArg
  split
  · exact ⟨fun h => by cases h; exact ⟨‹_›, rfl⟩, fun h => by rw [h.2]⟩
  · exact ⟨fun h => (nomatch h), fun h => absurd h.1 ‹_›⟩

theorem decodeBitArg_ok {a : Byte} {mk : Bool → Instr} {j : Instr} :
    decodeBitArg a mk = .ok j ↔ a >>> 1 = 0 ∧ j = mk (a.getLsbD 0) := by
  unfold decodeBitArg
  split
  · exact ⟨fun h => by cases h; exact ⟨‹_›, rfl⟩, fun h => by rw [h.2]⟩
  · exact ⟨fun h => (nomatch h), fun h => absurd h.1 ‹_›⟩

end Sys2Proof
end

