-- ==== Sys2Proof/Laws/State.lean ====
section
/-! SUPPORT. One lemma per field per named update of the state, so that no proof unfolds a record update. -/

namespace Sys2Proof.Machine

/-! `raiseUsage` -/

@[simp] theorem raiseUsage_c5 (u : Usage) (s : State) : (raiseUsage u s).c5 = s.c5 := rfl
@[simp] theorem raiseUsage_c16 (u : Usage) (s : State) : (raiseUsage u s).c16 = s.c16 := rfl
@[simp] theorem raiseUsage_rxb (u : Usage) (s : State) : (raiseUsage u s).rxb = s.rxb := rfl
@[simp] theorem raiseUsage_vst (u : Usage) (s : State) : (raiseUsage u s).vst = s.vst := rfl
@[simp] theorem raiseUsage_vpay (u : Usage) (s : State) : (raiseUsage u s).vpay = s.vpay := rfl
@[simp] theorem raiseUsage_vb6 (u : Usage) (s : State) : (raiseUsage u s).vb6 = s.vb6 := rfl
@[simp] theorem raiseUsage_vb7 (u : Usage) (s : State) : (raiseUsage u s).vb7 = s.vb7 := rfl
@[simp] theorem raiseUsage_vtrl (u : Usage) (s : State) : (raiseUsage u s).vtrl = s.vtrl := rfl
@[simp] theorem raiseUsage_flt (u : Usage) (s : State) : (raiseUsage u s).flt = s.flt ||| u.mask := rfl
@[simp] theorem raiseUsage_pending (u : Usage) (s : State) : (raiseUsage u s).pending = s.pending := rfl
@[simp] theorem raiseUsage_resp (u : Usage) (s : State) : (raiseUsage u s).resp = none := rfl
@[simp] theorem raiseUsage_results (u : Usage) (s : State) : (raiseUsage u s).results = s.results := rfl

/-! `respond` -/

@[simp] theorem respond_c5 (v : Word32) (s : State) : (respond v s).c5 = s.c5 := rfl
@[simp] theorem respond_c16 (v : Word32) (s : State) : (respond v s).c16 = s.c16 := rfl
@[simp] theorem respond_rxb (v : Word32) (s : State) : (respond v s).rxb = s.rxb := rfl
@[simp] theorem respond_vst (v : Word32) (s : State) : (respond v s).vst = s.vst := rfl
@[simp] theorem respond_vpay (v : Word32) (s : State) : (respond v s).vpay = s.vpay := rfl
@[simp] theorem respond_vb6 (v : Word32) (s : State) : (respond v s).vb6 = s.vb6 := rfl
@[simp] theorem respond_vb7 (v : Word32) (s : State) : (respond v s).vb7 = s.vb7 := rfl
@[simp] theorem respond_vtrl (v : Word32) (s : State) : (respond v s).vtrl = s.vtrl := rfl
@[simp] theorem respond_flt (v : Word32) (s : State) : (respond v s).flt = s.flt := rfl
@[simp] theorem respond_pending (v : Word32) (s : State) : (respond v s).pending = s.pending := rfl
@[simp] theorem respond_resp (v : Word32) (s : State) : (respond v s).resp = some v := rfl
@[simp] theorem respond_results (v : Word32) (s : State) : (respond v s).results = s.results := rfl

/-! `returnNothing` -/

@[simp] theorem returnNothing_c5 (s : State) : (returnNothing s).c5 = s.c5 := rfl
@[simp] theorem returnNothing_c16 (s : State) : (returnNothing s).c16 = s.c16 := rfl
@[simp] theorem returnNothing_rxb (s : State) : (returnNothing s).rxb = s.rxb := rfl
@[simp] theorem returnNothing_vst (s : State) : (returnNothing s).vst = s.vst := rfl
@[simp] theorem returnNothing_vpay (s : State) : (returnNothing s).vpay = s.vpay := rfl
@[simp] theorem returnNothing_vb6 (s : State) : (returnNothing s).vb6 = s.vb6 := rfl
@[simp] theorem returnNothing_vb7 (s : State) : (returnNothing s).vb7 = s.vb7 := rfl
@[simp] theorem returnNothing_vtrl (s : State) : (returnNothing s).vtrl = s.vtrl := rfl
@[simp] theorem returnNothing_flt (s : State) : (returnNothing s).flt = s.flt := rfl
@[simp] theorem returnNothing_pending (s : State) : (returnNothing s).pending = s.pending := rfl
@[simp] theorem returnNothing_resp (s : State) : (returnNothing s).resp = none := rfl
@[simp] theorem returnNothing_results (s : State) : (returnNothing s).results = s.results := rfl

/-! `setC5` -/

@[simp] theorem setC5_c5 (v : BitVec 5) (s : State) : (setC5 v s).c5 = v := rfl
@[simp] theorem setC5_c16 (v : BitVec 5) (s : State) : (setC5 v s).c16 = s.c16 := rfl
@[simp] theorem setC5_rxb (v : BitVec 5) (s : State) : (setC5 v s).rxb = s.rxb := rfl
@[simp] theorem setC5_vst (v : BitVec 5) (s : State) : (setC5 v s).vst = s.vst := rfl
@[simp] theorem setC5_vpay (v : BitVec 5) (s : State) : (setC5 v s).vpay = s.vpay := rfl
@[simp] theorem setC5_vb6 (v : BitVec 5) (s : State) : (setC5 v s).vb6 = s.vb6 := rfl
@[simp] theorem setC5_vb7 (v : BitVec 5) (s : State) : (setC5 v s).vb7 = s.vb7 := rfl
@[simp] theorem setC5_vtrl (v : BitVec 5) (s : State) : (setC5 v s).vtrl = s.vtrl := rfl
@[simp] theorem setC5_flt (v : BitVec 5) (s : State) : (setC5 v s).flt = s.flt := rfl
@[simp] theorem setC5_pending (v : BitVec 5) (s : State) : (setC5 v s).pending = s.pending := rfl
@[simp] theorem setC5_resp (v : BitVec 5) (s : State) : (setC5 v s).resp = none := rfl
@[simp] theorem setC5_results (v : BitVec 5) (s : State) : (setC5 v s).results = s.results := rfl

/-! `setC16` -/

@[simp] theorem setC16_c5 (v : BitVec 16) (s : State) : (setC16 v s).c5 = s.c5 := rfl
@[simp] theorem setC16_c16 (v : BitVec 16) (s : State) : (setC16 v s).c16 = v := rfl
@[simp] theorem setC16_rxb (v : BitVec 16) (s : State) : (setC16 v s).rxb = s.rxb := rfl
@[simp] theorem setC16_vst (v : BitVec 16) (s : State) : (setC16 v s).vst = s.vst := rfl
@[simp] theorem setC16_vpay (v : BitVec 16) (s : State) : (setC16 v s).vpay = s.vpay := rfl
@[simp] theorem setC16_vb6 (v : BitVec 16) (s : State) : (setC16 v s).vb6 = s.vb6 := rfl
@[simp] theorem setC16_vb7 (v : BitVec 16) (s : State) : (setC16 v s).vb7 = s.vb7 := rfl
@[simp] theorem setC16_vtrl (v : BitVec 16) (s : State) : (setC16 v s).vtrl = s.vtrl := rfl
@[simp] theorem setC16_flt (v : BitVec 16) (s : State) : (setC16 v s).flt = s.flt := rfl
@[simp] theorem setC16_pending (v : BitVec 16) (s : State) : (setC16 v s).pending = s.pending := rfl
@[simp] theorem setC16_resp (v : BitVec 16) (s : State) : (setC16 v s).resp = none := rfl
@[simp] theorem setC16_results (v : BitVec 16) (s : State) : (setC16 v s).results = s.results := rfl

/-! `pushByte` -/

@[simp] theorem pushByte_c5 (b : Byte) (s : State) : (pushByte b s).c5 = s.c5 := rfl
@[simp] theorem pushByte_c16 (b : Byte) (s : State) : (pushByte b s).c16 = s.c16 := rfl
@[simp] theorem pushByte_rxb (b : Byte) (s : State) : (pushByte b s).rxb = s.rxb ++ [b] := rfl
@[simp] theorem pushByte_vst (b : Byte) (s : State) : (pushByte b s).vst = s.vst := rfl
@[simp] theorem pushByte_vpay (b : Byte) (s : State) : (pushByte b s).vpay = s.vpay := rfl
@[simp] theorem pushByte_vb6 (b : Byte) (s : State) : (pushByte b s).vb6 = s.vb6 := rfl
@[simp] theorem pushByte_vb7 (b : Byte) (s : State) : (pushByte b s).vb7 = s.vb7 := rfl
@[simp] theorem pushByte_vtrl (b : Byte) (s : State) : (pushByte b s).vtrl = s.vtrl := rfl
@[simp] theorem pushByte_flt (b : Byte) (s : State) : (pushByte b s).flt = s.flt := rfl
@[simp] theorem pushByte_pending (b : Byte) (s : State) : (pushByte b s).pending = s.pending := rfl
@[simp] theorem pushByte_resp (b : Byte) (s : State) : (pushByte b s).resp = none := rfl
@[simp] theorem pushByte_results (b : Byte) (s : State) : (pushByte b s).results = s.results := rfl

/-! `latch` -/

@[simp] theorem latch_c5 (r : CheckResult) (s : State) : (latch r s).c5 = s.c5 := rfl
@[simp] theorem latch_c16 (r : CheckResult) (s : State) : (latch r s).c16 = s.c16 := rfl
@[simp] theorem latch_rxb (r : CheckResult) (s : State) : (latch r s).rxb = s.rxb := rfl
@[simp] theorem latch_vst (r : CheckResult) (s : State) : (latch r s).vst = r.vst := rfl
@[simp] theorem latch_vpay (r : CheckResult) (s : State) : (latch r s).vpay = r.vpay := rfl
@[simp] theorem latch_vb6 (r : CheckResult) (s : State) : (latch r s).vb6 = r.vb6 := rfl
@[simp] theorem latch_vb7 (r : CheckResult) (s : State) : (latch r s).vb7 = r.vb7 := rfl
@[simp] theorem latch_vtrl (r : CheckResult) (s : State) : (latch r s).vtrl = r.vtrl := rfl
@[simp] theorem latch_flt (r : CheckResult) (s : State) : (latch r s).flt = s.flt := rfl
@[simp] theorem latch_pending (r : CheckResult) (s : State) : (latch r s).pending = s.pending := rfl
@[simp] theorem latch_resp (r : CheckResult) (s : State) : (latch r s).resp = none := rfl
@[simp] theorem latch_results (r : CheckResult) (s : State) : (latch r s).results = r := rfl

/-! `clearValidator` -/

@[simp] theorem clearValidator_c5 (s : State) : (clearValidator s).c5 = s.c5 := rfl
@[simp] theorem clearValidator_c16 (s : State) : (clearValidator s).c16 = s.c16 := rfl
@[simp] theorem clearValidator_rxb (s : State) : (clearValidator s).rxb = [] := rfl
@[simp] theorem clearValidator_vst (s : State) : (clearValidator s).vst = .idle := rfl
@[simp] theorem clearValidator_vpay (s : State) : (clearValidator s).vpay = none := rfl
@[simp] theorem clearValidator_vb6 (s : State) : (clearValidator s).vb6 = none := rfl
@[simp] theorem clearValidator_vb7 (s : State) : (clearValidator s).vb7 = none := rfl
@[simp] theorem clearValidator_vtrl (s : State) : (clearValidator s).vtrl = none := rfl
@[simp] theorem clearValidator_flt (s : State) : (clearValidator s).flt = s.flt := rfl
@[simp] theorem clearValidator_pending (s : State) : (clearValidator s).pending = s.pending := rfl
@[simp] theorem clearValidator_resp (s : State) : (clearValidator s).resp = none := rfl
@[simp] theorem clearValidator_results (s : State) : (clearValidator s).results = .cleared := rfl

/-! `resetEvent` -/

@[simp] theorem resetEvent_c5 (s : State) : (resetEvent s).c5 = State.reset.c5 := rfl
@[simp] theorem resetEvent_c16 (s : State) : (resetEvent s).c16 = State.reset.c16 := rfl
@[simp] theorem resetEvent_rxb (s : State) : (resetEvent s).rxb = State.reset.rxb := rfl
@[simp] theorem resetEvent_vst (s : State) : (resetEvent s).vst = State.reset.vst := rfl
@[simp] theorem resetEvent_vpay (s : State) : (resetEvent s).vpay = State.reset.vpay := rfl
@[simp] theorem resetEvent_vb6 (s : State) : (resetEvent s).vb6 = State.reset.vb6 := rfl
@[simp] theorem resetEvent_vb7 (s : State) : (resetEvent s).vb7 = State.reset.vb7 := rfl
@[simp] theorem resetEvent_vtrl (s : State) : (resetEvent s).vtrl = State.reset.vtrl := rfl
@[simp] theorem resetEvent_flt (s : State) : (resetEvent s).flt = State.reset.flt := rfl
@[simp] theorem resetEvent_pending (s : State) : (resetEvent s).pending = s.pending := rfl
@[simp] theorem resetEvent_resp (s : State) : (resetEvent s).resp = State.reset.resp := rfl
@[simp] theorem resetEvent_results (s : State) : (resetEvent s).results = .cleared := rfl

/-! `offer` -/

@[simp] theorem offer_c5 (w : Command) (s : State) : (offer w s).c5 = s.c5 := rfl
@[simp] theorem offer_c16 (w : Command) (s : State) : (offer w s).c16 = s.c16 := rfl
@[simp] theorem offer_rxb (w : Command) (s : State) : (offer w s).rxb = s.rxb := rfl
@[simp] theorem offer_vst (w : Command) (s : State) : (offer w s).vst = s.vst := rfl
@[simp] theorem offer_vpay (w : Command) (s : State) : (offer w s).vpay = s.vpay := rfl
@[simp] theorem offer_vb6 (w : Command) (s : State) : (offer w s).vb6 = s.vb6 := rfl
@[simp] theorem offer_vb7 (w : Command) (s : State) : (offer w s).vb7 = s.vb7 := rfl
@[simp] theorem offer_vtrl (w : Command) (s : State) : (offer w s).vtrl = s.vtrl := rfl
@[simp] theorem offer_flt (w : Command) (s : State) : (offer w s).flt = s.flt := rfl
@[simp] theorem offer_pending (w : Command) (s : State) : (offer w s).pending = .command w :: s.pending := rfl
@[simp] theorem offer_resp (w : Command) (s : State) : (offer w s).resp = s.resp := rfl
@[simp] theorem offer_results (w : Command) (s : State) : (offer w s).results = s.results := rfl

@[simp] theorem reset_c5 : State.reset.c5 = Config.crc5Init := rfl
@[simp] theorem reset_c16 : State.reset.c16 = Config.crc16Params.init := rfl
@[simp] theorem reset_rxb : State.reset.rxb = [] := rfl
@[simp] theorem reset_results : State.reset.results = .cleared := rfl
@[simp] theorem reset_flt : State.reset.flt = 0 := rfl
@[simp] theorem reset_pending : State.reset.pending = [] := rfl
@[simp] theorem reset_resp : State.reset.resp = none := rfl

/-- `RXN` is the length of the buffer (R22, R23). -/
theorem rxn_eq (s : State) : s.rxn = s.rxb.length := rfl

end Sys2Proof.Machine
end

