-- ==== Sys2Proof/Laws/Ops.lean ====
section
/-! SUPPORT. What each shared operation can do, said once, and the laws of the checksum functions that every proof about
a span uses. -/

namespace Sys2Proof.Machine

/-- A usage fault keeps every bit of `FLT` that is set (R29). -/
theorem raiseUsage_flt_sticky (u : Usage) (s : State) : s.flt &&& (raiseUsage u s).flt = s.flt := by
  ext i
  simp
  tauto

/-- Reading a result register either returns its value or is NO_RESULT. -/
theorem readResult_cases {n : Nat} (carried : Bool) (r : Option (BitVec n)) (s : State) :
    (∃ v, carried = true ∧ r = some v ∧ readResult carried r s = respond (zext32 v) s) ∨
      ((carried = false ∨ r = none) ∧ readResult carried r s = raiseUsage .noResult s) := by
  cases carried <;> cases r <;> simp [readResult]

@[simp] theorem readResult_held {n : Nat} (v : BitVec n) (s : State) :
    readResult true (some v) s = respond (zext32 v) s := rfl

@[simp] theorem readResult_notCarried {n : Nat} (r : Option (BitVec n)) (s : State) :
    readResult false r s = raiseUsage .noResult s := rfl

@[simp] theorem readResult_empty {n : Nat} (carried : Bool) (s : State) :
    readResult carried (none : Option (BitVec n)) s = raiseUsage .noResult s := by
  cases carried <;> rfl

@[simp] theorem zext32_self (v : Word32) : zext32 v = v := by simp [zext32]

/-- What the port gives: nothing, or its first event with the rest left pending. -/
theorem nextEvent_nil {s : State} (h : s.pending = []) : nextEvent s = none := by simp [nextEvent, h]

theorem nextEvent_cons {s : State} {e : Event} {q : List Event} (h : s.pending = e :: q) :
    nextEvent s = some (e, { s with pending := q }) := by simp [nextEvent, h]

/-! ### The frame buffer -/

@[simp] theorem frameOf_toList (f : Frame) : frameOf f.toList = some f := rfl

/-- The buffer holds a frame exactly when it holds that frame's nine bytes. -/
theorem frameOf_eq_some {l : List Byte} {f : Frame} : frameOf l = some f ↔ l = f.toList := by
  constructor
  · intro h
    unfold frameOf at h
    split at h
    · cases h; rfl
    · cases h
  · rintro rfl; rfl

/-- A buffer of nine bytes holds a frame, and no other does (R163). -/
theorem frameOf_isSome {l : List Byte} : (frameOf l).isSome = true ↔ l.length = 9 := by
  constructor
  · intro h
    obtain ⟨f, hf⟩ := Option.isSome_iff_exists.1 h
    rw [frameOf_eq_some.1 hf]; rfl
  · intro h
    match l, h with
    | [_, _, _, _, _, _, _, _, _], _ => rfl

theorem frameOf_eq_none {l : List Byte} : frameOf l = none ↔ l.length ≠ 9 := by
  rw [← Option.not_isSome_iff_eq_none, ne_eq, frameOf_isSome]

@[simp] theorem toList_length (f : Frame) : f.toList.length = 9 := rfl

/-- A buffer of nine bytes is a frame's bytes. -/
theorem exists_frame {s : State} (h : s.rxn = 9) : ∃ f : Frame, s.rxb = f.toList := by
  obtain ⟨f, hf⟩ := Option.isSome_iff_exists.1 (frameOf_isSome.2 h)
  exact ⟨f, frameOf_eq_some.1 hf⟩

/-- A successful push keeps the buffer within nine bytes (R22, R23). -/
theorem pushByte_length_le {s : State} (b : Byte) (h : s.rxb.length ≤ 9) (h9 : s.rxn ≠ 9) :
    (pushByte b s).rxb.length ≤ 9 := by
  simp [rxn_eq] at *
  omega

/-! ### Spans -/

@[simp] theorem crc5bits_nil (c : BitVec 5) : crc5bits c [] = c := rfl

@[simp] theorem crc5bits_cons (c : BitVec 5) (d : Bool) (ds : List Bool) :
    crc5bits c (d :: ds) = crc5bits (crc5bit c d) ds := rfl

theorem crc5bits_append (c : BitVec 5) (ds es : List Bool) :
    crc5bits c (ds ++ es) = crc5bits (crc5bits c ds) es := List.foldl_append

/-- A span of bytes is the span of their bits, most significant first (R101, R102). -/
theorem foldl_crc5byte (c : BitVec 5) (bs : List Byte) :
    bs.foldl crc5byte c = crc5bits c (bs.flatMap bitsMsbFirst) := by
  induction bs generalizing c with
  | nil => rfl
  | cons b bs ih => rw [List.foldl_cons, ih, List.flatMap_cons, crc5bits_append]; rfl

theorem crc5_eq_bits (bs : List Byte) : crc5 bs = crc5bits Config.crc5Init (bs.flatMap bitsMsbFirst) :=
  foldl_crc5byte _ _

theorem crc5_append (as bs : List Byte) : crc5 (as ++ bs) = bs.foldl crc5byte (crc5 as) := List.foldl_append

@[simp] theorem crc16bits_nil (p : Crc16Params) (c : BitVec 16) : crc16bits p c [] = c := rfl

@[simp] theorem crc16bits_cons (p : Crc16Params) (c : BitVec 16) (d : Bool) (ds : List Bool) :
    crc16bits p c (d :: ds) = crc16bits p (crc16bit p c d) ds := rfl

theorem crc16bits_append (p : Crc16Params) (c : BitVec 16) (ds es : List Bool) :
    crc16bits p c (ds ++ es) = crc16bits p (crc16bits p c ds) es := List.foldl_append

/-- A span of bytes is the span of their bits in the order of R121. -/
theorem foldl_crc16byte (p : Crc16Params) (c : BitVec 16) (bs : List Byte) :
    bs.foldl (crc16byte p) c = crc16bits p c (bs.flatMap (crc16order p)) := by
  induction bs generalizing c with
  | nil => rfl
  | cons b bs ih => rw [List.foldl_cons, ih, List.flatMap_cons, crc16bits_append]; rfl

theorem crc16acc_eq_bits (p : Crc16Params) (bs : List Byte) :
    crc16acc p bs = crc16bits p p.init (bs.flatMap (crc16order p)) := foldl_crc16byte _ _ _

theorem crc16acc_append (p : Crc16Params) (as bs : List Byte) :
    crc16acc p (as ++ bs) = bs.foldl (crc16byte p) (crc16acc p as) := List.foldl_append

end Sys2Proof.Machine
end

