-- ==== Sys2Proof/Laws/Exec.lean ====
section
/-! SUPPORT. One lemma per meaning that says everything it can do, so that no later proof unfolds it, and what a step
can do. -/

namespace Sys2Proof.Machine

@[simp] theorem exec_c5init (s : State) : exec .c5init s = .next (setC5 Config.crc5Init s) := rfl
@[simp] theorem exec_c5bit (d : Bool) (s : State) : exec (.c5bit d) s = .next (setC5 (crc5bit s.c5 d) s) := rfl
@[simp] theorem exec_c5byte (b : Byte) (s : State) : exec (.c5byte b) s = .next (setC5 (crc5byte s.c5 b) s) := rfl
@[simp] theorem exec_c5read (s : State) : exec .c5read s = .next (respond (zext32 s.c5) s) := rfl
@[simp] theorem exec_c16init (s : State) : exec .c16init s = .next (setC16 Config.crc16Params.init s) := rfl
@[simp] theorem exec_c16bit (d : Bool) (s : State) :
    exec (.c16bit d) s = .next (setC16 (crc16bit Config.crc16Params s.c16 d) s) := rfl
@[simp] theorem exec_c16byte (b : Byte) (s : State) :
    exec (.c16byte b) s = .next (setC16 (crc16byte Config.crc16Params s.c16 b) s) := rfl
@[simp] theorem exec_c16read (s : State) :
    exec .c16read s = .next (respond (zext32 (crc16fin Config.crc16Params s.c16)) s) := rfl
@[simp] theorem exec_vclr (s : State) : exec .vclr s = .next (clearValidator s) := rfl

theorem exec_vpush_full {s : State} (b : Byte) (h : s.rxn = 9) :
    exec (.vpush b) s = .next (raiseUsage .rxOverrun s) := by simp [exec, execVpush, h]

theorem exec_vpush_room {s : State} (b : Byte) (h : s.rxn ≠ 9) : exec (.vpush b) s = .next (pushByte b s) := by
  simp [exec, execVpush, h]

theorem exec_vcheck_full {s : State} {f : Frame} (h : s.rxb = f.toList) :
    exec .vcheck s = .next (latch (validate Config.regAddrSet f) s) := by simp [exec, execVcheck, h]

theorem exec_vcheck_short {s : State} (h : s.rxn ≠ 9) : exec .vcheck s = .next (raiseUsage .rxUnderrun s) := by
  simp [exec, execVcheck, frameOf_eq_none.2 h]

@[simp] theorem exec_vread_status (s : State) : exec (.vread .status) s = .next (respond (zext32 s.vst.code) s) := rfl
@[simp] theorem exec_vread_payload (s : State) :
    exec (.vread .payload) s = .next (readResult s.vst.carriesPayload s.vpay s) := rfl
@[simp] theorem exec_vread_b6 (s : State) :
    exec (.vread .b6) s = .next (readResult s.vst.carriesPayload s.vb6 s) := rfl
@[simp] theorem exec_vread_b7 (s : State) :
    exec (.vread .b7) s = .next (readResult s.vst.carriesAddress s.vb7 s) := rfl
@[simp] theorem exec_vread_trailer (s : State) :
    exec (.vread .trailer) s = .next (readResult s.vst.carriesAddress s.vtrl s) := rfl
@[simp] theorem exec_vread_count (s : State) :
    exec (.vread .count) s = .next (respond (BitVec.ofNat 32 s.rxn) s) := rfl
@[simp] theorem exec_vread_faults (s : State) : exec (.vread .faults) s = .next (respond (zext32 s.flt) s) := rfl
@[simp] theorem exec_vread_reserved (s : State) : exec (.vread .reserved) s = .next (raiseUsage .illegalOp s) := rfl

/-- A read of the validator returns a value or raises a usage fault, and does nothing else (R164). -/
theorem exec_vread_cases (sel : Selector) (s : State) :
    (∃ v, exec (.vread sel) s = .next (respond v s)) ∨
      (∃ u, (u = .noResult ∨ (u = .illegalOp ∧ sel = .reserved)) ∧
        exec (.vread sel) s = .next (raiseUsage u s)) := by
  cases sel
  case status => exact .inl ⟨_, rfl⟩
  case count => exact .inl ⟨_, rfl⟩
  case faults => exact .inl ⟨_, rfl⟩
  case reserved => exact .inr ⟨_, .inr ⟨rfl, rfl⟩, rfl⟩
  all_goals
    simp only [exec_vread_payload, exec_vread_b6, exec_vread_b7, exec_vread_trailer]
    rcases readResult_cases _ _ s with ⟨v, -, -, h⟩ | ⟨-, h⟩
    · exact .inl ⟨_, by rw [h]⟩
    · exact .inr ⟨_, .inl rfl, by rw [h]⟩

/-- Everything an operation can do: it writes its unit's registers, returns a value, or raises a usage fault. -/
theorem exec_cases {i : Instr} {s t : State} (h : exec i s = .next t) :
    (∃ v, unitOf i = .crc5 ∧ isRead i = false ∧ t = setC5 v s) ∨
    (∃ v, unitOf i = .crc16 ∧ isRead i = false ∧ t = setC16 v s) ∨
    (i = .vclr ∧ t = clearValidator s) ∨
    (∃ b, i = .vpush b ∧ s.rxn ≠ 9 ∧ t = pushByte b s) ∨
    (∃ f, i = .vcheck ∧ s.rxb = f.toList ∧ t = latch (validate Config.regAddrSet f) s) ∨
    (∃ v, isRead i = true ∧ t = respond v s) ∨
    (∃ u, t = raiseUsage u s ∧
      ((u = .rxOverrun ∧ (∃ b, i = .vpush b) ∧ s.rxn = 9) ∨ (u = .rxUnderrun ∧ i = .vcheck ∧ s.rxn ≠ 9) ∨
        (u = .noResult ∧ ∃ sel, i = .vread sel) ∨ (u = .illegalOp ∧ i = .vread .reserved))) := by
  cases i with
  | c5init => cases h; exact .inl ⟨_, rfl, rfl, rfl⟩
  | c5bit d => cases h; exact .inl ⟨_, rfl, rfl, rfl⟩
  | c5byte b => cases h; exact .inl ⟨_, rfl, rfl, rfl⟩
  | c16init => cases h; exact .inr (.inl ⟨_, rfl, rfl, rfl⟩)
  | c16bit d => cases h; exact .inr (.inl ⟨_, rfl, rfl, rfl⟩)
  | c16byte b => cases h; exact .inr (.inl ⟨_, rfl, rfl, rfl⟩)
  | c5read => cases h; exact .inr (.inr (.inr (.inr (.inr (.inl ⟨_, rfl, rfl⟩)))))
  | c16read => cases h; exact .inr (.inr (.inr (.inr (.inr (.inl ⟨_, rfl, rfl⟩)))))
  | vclr => cases h; exact .inr (.inr (.inl ⟨rfl, rfl⟩))
  | vpush b =>
    by_cases h9 : s.rxn = 9
    · rw [exec_vpush_full b h9] at h; cases h
      exact .inr (.inr (.inr (.inr (.inr (.inr ⟨_, rfl, .inl ⟨rfl, ⟨b, rfl⟩, h9⟩⟩)))))
    · rw [exec_vpush_room b h9] at h; cases h
      exact .inr (.inr (.inr (.inl ⟨b, rfl, h9, rfl⟩)))
  | vcheck =>
    by_cases h9 : s.rxn = 9
    · obtain ⟨f, hf⟩ := exists_frame h9
      rw [exec_vcheck_full hf] at h; cases h
      exact .inr (.inr (.inr (.inr (.inl ⟨f, rfl, hf, rfl⟩))))
    · rw [exec_vcheck_short h9] at h; cases h
      exact .inr (.inr (.inr (.inr (.inr (.inr ⟨_, rfl, .inr (.inl ⟨rfl, rfl, h9⟩)⟩)))))
  | vread sel =>
    rcases exec_vread_cases sel s with ⟨v, hv⟩ | ⟨u, hu, hv⟩
    · rw [hv] at h; cases h
      exact .inr (.inr (.inr (.inr (.inr (.inl ⟨v, rfl, rfl⟩)))))
    · rw [hv] at h; cases h
      rcases hu with rfl | ⟨rfl, rfl⟩
      · exact .inr (.inr (.inr (.inr (.inr (.inr ⟨_, rfl, .inr (.inr (.inl ⟨rfl, sel, rfl⟩))⟩)))))
      · exact .inr (.inr (.inr (.inr (.inr (.inr ⟨_, rfl, .inr (.inr (.inr ⟨rfl, rfl⟩))⟩)))))

/-- Every operation answers a next state (R231). -/
theorem exec_next (i : Instr) (s : State) : ∃ t, exec i s = .next t := by
  cases i with
  | vpush b =>
    by_cases h9 : s.rxn = 9
    · exact ⟨_, exec_vpush_full b h9⟩
    · exact ⟨_, exec_vpush_room b h9⟩
  | vcheck =>
    by_cases h9 : s.rxn = 9
    · obtain ⟨f, hf⟩ := exists_frame h9
      exact ⟨_, exec_vcheck_full hf⟩
    · exact ⟨_, exec_vcheck_short h9⟩
  | vread sel => rcases exec_vread_cases sel s with ⟨v, h⟩ | ⟨u, -, h⟩ <;> exact ⟨_, h⟩
  | _ => exact ⟨_, rfl⟩

/-- No operation touches what waits on the port. -/
theorem exec_pending {i : Instr} {s t : State} (h : exec i s = .next t) : t.pending = s.pending := by
  rcases exec_cases h with ⟨_, _, _, rfl⟩ | ⟨_, _, _, rfl⟩ | ⟨_, rfl⟩ | ⟨_, _, _, rfl⟩ | ⟨_, _, _, rfl⟩ | ⟨_, _, rfl⟩ |
    ⟨_, rfl, _⟩ <;> simp

/-- What a step can do: wait, reset, or issue the first pending word. -/
theorem step_nil {s : State} (h : s.pending = []) : step s = .next (returnNothing s) := by
  simp [step, nextEvent_nil h]

theorem step_reset {s : State} {q : List Event} (h : s.pending = .reset :: q) :
    step s = .next (resetEvent { s with pending := q }) := by simp [step, nextEvent_cons h]

theorem step_command {s : State} {w : Command} {q : List Event} (h : s.pending = .command w :: q) :
    step s = issue w { s with pending := q } := by simp [step, nextEvent_cons h]

theorem issue_legal {w : Command} {i : Instr} (h : decode w = .ok i) (s : State) : issue w s = exec i s := by
  simp [issue, h]

theorem issue_illegal {w : Command} {e : Illegal} (h : decode w = .error e) (s : State) :
    issue w s = .next (raiseUsage .illegalOp s) := by simp [issue, h]

/-- A step takes one event from the port. -/
theorem step_pending {s t : State} (h : step s = .next t) : t.pending = s.pending.tail := by
  cases hp : s.pending with
  | nil => rw [step_nil hp] at h; cases h; simp [hp]
  | cons e q =>
    cases e with
    | reset => rw [step_reset hp] at h; cases h; rfl
    | command w =>
      rw [step_command hp] at h
      cases hd : decode w with
      | ok i => rw [issue_legal hd] at h; exact exec_pending h
      | error e => rw [issue_illegal hd] at h; cases h; rfl

/-! ### Runs and sequences of operations -/

@[simp] theorem run_zero (s : State) : run 0 s = .next s := rfl

theorem run_succ {n : Nat} {s t : State} (h : step s = .next t) : run (n + 1) s = run n t := by
  have h' : Sys2Proof.core.step s = .next t := h
  simp only [run, Host.Core.run, h']
  rfl

@[simp] theorem execAll_nil (s : State) : execAll [] s = .next s := rfl

theorem execAll_cons {i : Instr} {is : List Instr} {s t : State} (h : exec i s = .next t) :
    execAll (i :: is) s = execAll is t := by simp only [execAll, h]

/-- A sequence of operations answers a next state. -/
theorem execAll_next (is : List Instr) (s : State) : ∃ t, execAll is s = .next t := by
  induction is generalizing s with
  | nil => exact ⟨s, rfl⟩
  | cons i is ih =>
    obtain ⟨t, ht⟩ := exec_next i s
    rw [execAll_cons ht]
    exact ih t

theorem execAll_append {is js : List Instr} {s t : State} (h : execAll is s = .next t) :
    execAll (is ++ js) s = execAll js t := by
  induction is generalizing s with
  | nil => cases h; rfl
  | cons i is ih =>
    obtain ⟨u, hu⟩ := exec_next i s
    rw [execAll_cons hu] at h
    rw [List.cons_append, execAll_cons hu]
    exact ih h

/-! ### The validator -/

/-- The five outcomes of `validate`, with what each says of the trailer (R162). -/
theorem validate_cases (known : Byte → Bool) (f : Frame) :
    validate known f = ⟨.errPreamble, none, none, none, none⟩ ∨
    validate known f = ⟨.errCrc, none, none, none, none⟩ ∨
    (f.crcGood = true ∧ trailerTyp f.f8 = true ∧
      validate known f = ⟨.job, some f.payload, some f.f6, some f.f7, some f.f8⟩) ∨
    (f.crcGood = true ∧ trailerTyp f.f8 = false ∧
      validate known f = ⟨.errUnkreg, none, none, some f.f7, some f.f8⟩) ∨
    (f.crcGood = true ∧ trailerTyp f.f8 = false ∧
      validate known f = ⟨.reg, some f.payload, some f.f6, some f.f7, some f.f8⟩) := by
  unfold validate
  cases f.preambleGood <;> cases f.crcGood <;> cases trailerTyp f.f8 <;> cases known f.f7 <;> simp

end Sys2Proof.Machine
end

