-- ==== Sys2Proof/Laws/PerInstr.lean ====
section
/-! SUPPORT. Statements about every operation as syntax, one lemma per constructor. -/

namespace Sys2Proof.Laws.WordFields

/-- The word of an operation has the operation code and the argument byte of the operation map (R60, R61). -/
def Statement (i : Instr) : Prop := (encode i).op = i.op ∧ (encode i).arg = i.arg

theorem c5init : Statement .c5init := ⟨op_of_word _ _, arg_of_word _ _⟩
theorem c5bit (d : Bool) : Statement (.c5bit d) := ⟨op_of_word _ _, arg_of_word _ _⟩
theorem c5byte (b : Byte) : Statement (.c5byte b) := ⟨op_of_word _ _, arg_of_word _ _⟩
theorem c5read : Statement .c5read := ⟨op_of_word _ _, arg_of_word _ _⟩
theorem c16init : Statement .c16init := ⟨op_of_word _ _, arg_of_word _ _⟩
theorem c16bit (d : Bool) : Statement (.c16bit d) := ⟨op_of_word _ _, arg_of_word _ _⟩
theorem c16byte (b : Byte) : Statement (.c16byte b) := ⟨op_of_word _ _, arg_of_word _ _⟩
theorem c16read : Statement .c16read := ⟨op_of_word _ _, arg_of_word _ _⟩
theorem vclr : Statement .vclr := ⟨op_of_word _ _, arg_of_word _ _⟩
theorem vpush (b : Byte) : Statement (.vpush b) := ⟨op_of_word _ _, arg_of_word _ _⟩
theorem vcheck : Statement .vcheck := ⟨op_of_word _ _, arg_of_word _ _⟩
theorem vread (sel : Selector) : Statement (.vread sel) := ⟨op_of_word _ _, arg_of_word _ _⟩

end Sys2Proof.Laws.WordFields
end

