-- ==== Sys2Proof/Tests/Slice0.lean ====
section
/-! SUPPORT. The model's own tests. Expected values come from spec/95_test_vectors.md (the section is named in each
comment) or from the rule named. The last part shows, for each statement with hypotheses, a state that meets them. -/

namespace Sys2Proof.Tests

open Sys2Proof.Machine

/-- The next state of an outcome. -/
def after : Host.Outcome State Fault Refusal → Option State
  | .next t => some t
  | .fault _ | .refused _ => none

/-- The reset state with bytes in the frame buffer. -/
def holding (bytes : List Byte) : State := { State.reset with rxb := bytes }

/-- The state after VCHECK of a frame. -/
def checked (f : Frame) : State := latch (validate Config.regAddrSet f) (holding f.toList)

/-- Scenarios 3 to 6 of the source (sections 1.4 to 1.7). -/
def scenario3 : Frame := ⟨0xAA, 0x55, 0x13, 0x97, 0x18, 0x00, 0x00, 0x00, 0x06⟩
def scenario4 : Frame := ⟨0xAA, 0x55, 0x97, 0xC3, 0x28, 0xB6, 0x01, 0x63, 0x9C⟩
def scenario5 : Frame := ⟨0xAA, 0x55, 0x00, 0x00, 0x00, 0x00, 0x04, 0xF0, 0x03⟩
def scenario6 : Frame := ⟨0xAA, 0x55, 0x13, 0x97, 0x18, 0x00, 0x00, 0x00, 0x00⟩

/-! ### Well-formedness: the one ill-formed term, and its neighbour -/

theorem test_reserved_selector_is_ill_formed : (Instr.vread .reserved).wellFormed = false := by decide
theorem test_faults_selector_is_well_formed : (Instr.vread .faults).wellFormed = true := by decide
theorem test_ill_formed_term_is_illegal_op :
    ((after (exec (.vread .reserved) State.reset)).map (·.flt)) = some 0b0001 := by decide

/-! ### Decoding: one word per constructor, bit by bit from R60 and R61, and one per clause of R64 -/

theorem test_decode_c5init : decode 0b0001_00000000 = .ok .c5init := by decide
theorem test_decode_c5bit : decode 0b0010_00000001 = .ok (.c5bit true) := by decide
theorem test_decode_c5byte : decode 0b0011_01010010 = .ok (.c5byte 0x52) := by decide
theorem test_decode_c5read : decode 0b0100_00000000 = .ok .c5read := by decide
theorem test_decode_c16init : decode 0b0101_00000000 = .ok .c16init := by decide
theorem test_decode_c16bit : decode 0b0110_00000001 = .ok (.c16bit true) := by decide
theorem test_decode_c16byte : decode 0b0111_10100101 = .ok (.c16byte 0xA5) := by decide
theorem test_decode_c16read : decode 0b1000_00000000 = .ok .c16read := by decide
theorem test_decode_vclr : decode 0b1001_00000000 = .ok .vclr := by decide
theorem test_decode_vpush : decode 0b1010_11111111 = .ok (.vpush 0xFF) := by decide
theorem test_decode_vcheck : decode 0b1011_00000000 = .ok .vcheck := by decide
theorem test_decode_vread : decode 0b1100_00000110 = .ok (.vread .faults) := by decide
theorem test_reject_reserved_op : decode 0b1111_11111111 = .error .reservedOp := by decide
theorem test_reject_zero_word : decode 0b0000_00000000 = .error .reservedOp := by decide
theorem test_reject_arg_not_zero : decode 0b0001_00000001 = .error .argNotZero := by decide
theorem test_reject_bit_arg : decode 0b0010_00000011 = .error .bitArgTooWide := by decide
theorem test_reject_selector_7 : decode 0b1100_00000111 = .error .selectorReserved := by decide
theorem test_reject_selector_8 : decode 0b1100_00001000 = .error .selectorTooWide := by decide
theorem test_table_word : decodeTableWord 16 0x352 = some (.c5byte 0x52) := by decide
theorem test_table_word_too_wide : decodeTableWord 16 0x1352 = none := by decide
theorem test_fetch_word_runs :
    ((after (step (State.reset.withFetchWord 16 0x352))).map (·.c5)) = some 0x18 := by decide

/-! ### CRC-5 (sections 1.1, 2.1, 3 P3) -/

theorem test_c5init : ((after (exec .c5init { State.reset with c5 := 0x0A })).map (·.c5)) = some 0x1F := by decide
theorem test_c5bit : ((after (exec (.c5bit true) State.reset)).map (·.c5)) = some 0x1E := by decide
theorem test_c5byte : ((after (exec (.c5byte 0x53) State.reset)).map (·.c5)) = some 0x1D := by decide
theorem test_c5read :
    ((after (exec .c5read { State.reset with c5 := 0x0A })).map (·.resp)) = some (some 0x0000000A) := by decide
theorem test_crc5_vector : crc5 [0x53, 0x05, 0x00, 0x00] = 0x03 := by decide
theorem test_crc5_123456789 :
    crc5 [0x31, 0x32, 0x33, 0x34, 0x35, 0x36, 0x37, 0x38, 0x39] = 0x0F := by decide +kernel
theorem test_crc51_scenario3 : scenario3.crc51 = 0x06 := by decide +kernel

/-! ### CRC-16, the functions under parameter sets that section 2.3 lists (its numbers assume them), and the operations
for this block's open parameters -/

theorem test_crc16bit : crc16bit .recommended 0x8000 false = 0x1021 := by decide
theorem test_crc16_recommended : crc16 .recommended [0x21, 0x36] = 0x7E4D := by decide
theorem test_crc16_kermit :
    crc16 ⟨0x1021, 0x0000, true, true, 0x0000⟩ [0x31, 0x32, 0x33, 0x34, 0x35, 0x36, 0x37, 0x38, 0x39] = 0x2189 := by
  decide +kernel
theorem test_crc16_genibus :
    crc16 ⟨0x1021, 0xFFFF, false, false, 0xFFFF⟩ [0x31, 0x32, 0x33, 0x34, 0x35, 0x36, 0x37, 0x38, 0x39] = 0xD64E := by
  decide +kernel
theorem test_crc16_x25 :
    crc16 ⟨0x1021, 0xFFFF, true, true, 0xFFFF⟩ [0x31, 0x32, 0x33, 0x34, 0x35, 0x36, 0x37, 0x38, 0x39] = 0x906E := by
  decide +kernel
theorem test_c16init (s : State) : (after (exec .c16init s)).map (·.c16) = some Config.crc16Params.init := rfl
theorem test_c16read_keeps_accumulator (s : State) : (after (exec .c16read s)).map (·.c16) = some s.c16 := rfl

/-! ### Frames (sections 1.2, 1.3, 2.4, 2.5) -/

theorem test_seal5_scenario1 : frameShort 0x52 0x00 0x00 = [0x55, 0xAA, 0x52, 0x05, 0x00, 0x00, 0x0A] := by decide
theorem test_seal5_value_is_big_endian :
    frameLong 0x41 0x00 0x00 0x12345678 =
      [0x55, 0xAA, 0x41, 0x09, 0x00, 0x00, 0x12, 0x34, 0x56, 0x78, 0x09] := by decide +kernel

/-- The midstate of frame J1: bytes 0x00, 0x01, ..., 0x1F. -/
def midstateJ1 : Vector Byte 32 := Vector.ofFn fun i => BitVec.ofNat 8 i.val

theorem test_job_frame_j1_ends :
    (frameJob .recommended .oneMidstate ⟨0x21, 0x36, 0x04, 0x01, 0x1D00FFFF, 0x495FAB29, 0x4B1E5E4A⟩
      #v[midstateJ1]).drop 50 = [0x1C, 0x1D, 0x1E, 0x1F, 0x85, 0x8D] := by decide +kernel
theorem test_job_frame_j1_fields :
    ((frameJob .recommended .oneMidstate ⟨0x21, 0x36, 0x04, 0x01, 0x1D00FFFF, 0x495FAB29, 0x4B1E5E4A⟩
      #v[midstateJ1]).drop 6).take 12 =
      [0x00, 0x00, 0x00, 0x00, 0xFF, 0xFF, 0x00, 0x1D, 0x29, 0xAB, 0x5F, 0x49] := by decide +kernel

/-! ### The validator (sections 1.4 to 1.7, 2.6, 2.8) -/

theorem test_vclr_keeps_faults :
    ((after (exec .vclr { holding [0xAA] with flt := 0b1111 })).map fun t => (t.rxb, t.flt)) = some ([], 0b1111) := by
  decide
theorem test_vpush : ((after (exec (.vpush 0x55) (holding [0xAA]))).map (·.rxb)) = some [0xAA, 0x55] := by decide
theorem test_vpush_tenth :
    ((after (exec (.vpush 0x77) (holding scenario3.toList))).map fun t => (t.rxb, t.flt)) =
      some (scenario3.toList, 0b0010) := by decide
theorem test_vcheck_underrun : ((after (exec .vcheck State.reset)).map (·.flt)) = some 0b0100 := by decide
theorem test_vcheck_scenario4 :
    ((after (exec .vcheck (holding scenario4.toList))).map (·.results)) =
      some ⟨.job, some 0x97C328B6, some 0x01, some 0x63, some 0x9C⟩ := by decide +kernel
theorem test_validate_scenario5 :
    validate Config.regAddrSet scenario5 = ⟨.errUnkreg, none, none, some 0xF0, some 0x03⟩ := by decide +kernel
theorem test_validate_scenario6 :
    validate Config.regAddrSet scenario6 = ⟨.errCrc, none, none, none, none⟩ := by decide +kernel
theorem test_validate_v2_second_preamble_byte :
    (validate Config.regAddrSet ⟨0xAA, 0x54, 0x13, 0x97, 0x18, 0x00, 0x00, 0x00, 0x06⟩).vst = .errPreamble := by
  decide +kernel
theorem test_validate_v7_job_not_looked_up :
    validate Config.regAddrSet ⟨0xAA, 0x55, 0x00, 0x00, 0x00, 0x00, 0x04, 0xF0, 0x97⟩ =
      ⟨.job, some 0x00000000, some 0x04, some 0xF0, some 0x97⟩ := by decide +kernel
theorem test_validate_v9_rsv_not_tested :
    validate Config.regAddrSet ⟨0xAA, 0x55, 0x13, 0x97, 0x18, 0x00, 0x00, 0x00, 0x23⟩ =
      ⟨.reg, some 0x13971800, some 0x00, some 0x00, some 0x23⟩ := by decide +kernel
theorem test_trailer_fields_v12 : (trailerTyp 0xD6, trailerRsv 0xD6, trailerChk 0xD6) = (true, 0b10, 0b10110) := by
  decide
theorem test_vread_no_result :
    ((after (exec (.vread .payload) State.reset)).map fun t => (t.flt, t.resp)) = some (0b1000, none) := by decide
theorem test_vread_b7_after_scenario5 :
    ((after (exec (.vread .b7) (checked scenario5))).map fun t => (t.flt, t.resp)) = some (0, some 0x000000F0) := by
  decide +kernel

/-! ### The port, and the assembler (R76, R77) -/

theorem test_illegal_word :
    ((after (step (offer 0x000 State.reset))).map fun t => (t.flt, t.resp, t.pending)) = some (0b0001, none, []) := by
  decide
theorem test_reset_event_clears_faults :
    ((after (step { State.reset with flt := 0b1111, pending := [.reset, .command 0x100] })).map
      fun t => (t.flt, t.pending)) = some (0, [.command 0x100]) := by decide
theorem test_idle : ((after (step { State.reset with c5 := 3, resp := some 7 })).map fun t => (t.c5, t.resp)) =
    some (3, none) := by decide
theorem test_assembler_line : parseLine [' ', 'C', '5', 'B', 'Y', 'T', 'E', ' ', '8', '2', ' ', ';', 'x'] =
    some (.operation (.c5byte 0x52)) := by decide +kernel
theorem test_assembler_pseudo : parseLine ['C', 'R', 'C', '5', ' ', '0', 'x', '5', '2', ',', ' ', '5'] =
    some (.pseudo (.crc5 [0x52, 0x05])) := by decide +kernel
theorem test_assembler_refuses_wide_byte : parseLine ['V', 'P', 'U', 'S', 'H', ' ', '2', '5', '6'] = none := by
  decide +kernel
theorem test_assembler_refuses_selector_7 : parseLine ['V', 'R', 'E', 'A', 'D', ' ', '7'] = none := by decide +kernel

/-! ### Witnesses: states and operands that meet the hypotheses of the statements -/

theorem consistent_reset : State.reset.Consistent := ⟨by decide, .inl rfl⟩
theorem consistent_checked (f : Frame) : (checked f).Consistent := ⟨by simp [checked, latch, holding, Frame.toList], .inr ⟨f, rfl, rfl⟩⟩
theorem consistent_full_unchecked : (holding scenario3.toList).Consistent := ⟨by decide, .inl rfl⟩

theorem witness_DecodeOfEncodeGivesTheInstruction : (Instr.vread .faults).wellFormed = true := by decide
theorem witness_EncodeOfDecodeGivesTheWord : decode 0x3FF = .ok (.c5byte 0xFF) := by decide
theorem witness_IllegalWordsRaiseIllegalOp :
    (¬ ∃ i, decode 0xFFF = .ok i) ∧ (offer 0xFFF State.reset).pending = .command 0xFFF :: [] := by
  refine ⟨?_, rfl⟩
  rintro ⟨i, h⟩
  rw [show decode 0xFFF = .error .reservedOp by decide] at h
  cases h
/-- The illegal words of the clauses `w.op = … → w.arg … → RaisesIllegalOp w`, at the ends of their ranges: for
C5InitLoadsInitialValue, C5BitShiftsAndFeedsBack, C5ReadReturnsAccumulator, C16InitLoadsInitialValue,
C16BitShiftsAndFeedsBack, C16ReadReturnsFinishedValue, VclrEmptiesTheValidator, VcheckLatchesTheVerdict,
VreadReturnsTheSelectedRegister. -/
theorem witness_illegal_clause_boundaries :
    [(0x101 : Command), 0x202, 0x280, 0x401, 0x4FF, 0x501, 0x602, 0x680, 0x801, 0x901, 0xB01, 0xC07, 0xC08, 0xCF8].map
      (fun w => (decode w).isOk) = List.replicate 14 false ∧
    (Command.op 0x101 = 0x1 ∧ Command.arg 0x101 ≠ 0) ∧
    (Command.op 0x202 = 0x2 ∧ (Command.arg 0x202).extractLsb' 1 7 ≠ 0) ∧
    (Command.op 0x401 = 0x4 ∧ Command.arg 0x401 ≠ 0) ∧
    (Command.op 0x501 = 0x5 ∧ Command.arg 0x501 ≠ 0) ∧
    (Command.op 0x680 = 0x6 ∧ (Command.arg 0x680).extractLsb' 1 7 ≠ 0) ∧
    (Command.op 0x801 = 0x8 ∧ Command.arg 0x801 ≠ 0) ∧
    (Command.op 0x901 = 0x9 ∧ Command.arg 0x901 ≠ 0) ∧
    (Command.op 0xB01 = 0xB ∧ Command.arg 0xB01 ≠ 0) ∧
    (Command.op 0xC07 = 0xC ∧ (Command.arg 0xC07).extractLsb' 0 3 = 7) ∧
    (Command.op 0xC08 = 0xC ∧ (Command.arg 0xC08).extractLsb' 3 5 ≠ 0) := by decide
theorem witness_AssemblerReadsWhatItWrites : (Instr.vpush 0x0A).wellFormed = true := by decide
theorem witness_StepRunsTheDecodedInstruction :
    (offer 0x201 State.reset).pending = .command 0x201 :: [] ∧ decode 0x201 = .ok (.c5bit true) := by decide
theorem witness_FetchWordRunsNext : decodeTableWord 12 0xC06 = some (.vread .faults) := by decide
theorem witness_WaitsWithNothingPending : State.reset.pending = [] := by decide
theorem witness_ResetEventRestoresResetValues :
    (State.pending { State.reset with pending := [.reset] } = .reset :: []) ∧
    (after (step (offer 0x000 State.reset))).isSome = true ∧ (∀ q, (offer 0x000 State.reset).pending ≠ .reset :: q) :=
  ⟨rfl, by decide, fun _ h => by cases h⟩
theorem witness_InitialisingEqualsReset : (checked scenario3).flt = 0 := by decide
theorem witness_RunExecutesInIssueOrder : ∀ i ∈ [Instr.c5init, .c16byte 0x21, .vread .count], i.wellFormed = true := by
  decide
theorem witness_Crc5StreamingEqualsFunction :
    (∀ i ∈ [Instr.c5byte 0x53, .vpush 0xAA, .c16read, .c5byte 0x05], i.wellFormed = true ∧ i ≠ .c5init) ∧
    [Instr.c5byte 0x53, .vpush 0xAA, .c16read, .c5byte 0x05].flatMap crc5Fed =
      [(0x53 : Byte), 0x05].flatMap bitsMsbFirst := by decide
theorem witness_C16BitShiftsAndFeedsBack : 0 < 16 ∧ 15 < 16 := by decide
theorem witness_Crc16StreamingEqualsFunction :
    (∀ i ∈ [Instr.c16byte 0x21, .vpush 0xAA, .c5read], i.wellFormed = true ∧ i ≠ .c16init) ∧
    [Instr.c16byte 0x21, .vpush 0xAA, .c5read].flatMap (crc16Fed Config.crc16Params) =
      [(0x21 : Byte)].flatMap (crc16order Config.crc16Params) := ⟨by decide, by simp [crc16Fed]⟩
theorem witness_Crc16ResidueIsZeroInThePlainCase :
    Crc16Params.recommended.refin = false ∧ Crc16Params.recommended.refout = false ∧
      Crc16Params.recommended.xorout = 0 := by decide
theorem witness_RecommendedCrc16BitStep : 1 ≤ 15 ∧ 15 ≤ 15 ∧ 15 ≠ 5 ∧ 15 ≠ 12 := by decide
/-- For Seal5AppendsTheCrc5Trailer, Seal16AppendsTheCrc16BigEndian and OutboundTrailerIsNoZeroResidue: the shortest
body, and one that is longer. -/
theorem witness_bodies_to_seal :
    ([0x55, 0xAA] : List Byte).length = 2 ∧ 2 ≤ ([0x55, 0xAA, 0x52] : List Byte).length := by decide
theorem witness_VpushStoresAtRxn :
    (holding [0, 1, 2, 3, 4, 5, 6, 7]).rxn ≠ 9 ∧ (holding scenario3.toList).rxn = 9 ∧ State.reset.rxn ≠ 9 := by decide
theorem witness_ValidateOutcomes :
    (scenario3.f0 = 0xAA ∧ scenario3.f1 = 0x55 ∧ crc5 scenario3.span = 0x00 ∧ scenario3.f8.getLsbD 7 = false ∧
      Config.regAddrSet scenario3.f7 = true) ∧
    (scenario4.f0 = 0xAA ∧ scenario4.f1 = 0x55 ∧ crc5 scenario4.span = 0x00 ∧ scenario4.f8.getLsbD 7 = true) ∧
    (scenario5.f0 = 0xAA ∧ scenario5.f1 = 0x55 ∧ crc5 scenario5.span = 0x00 ∧ scenario5.f8.getLsbD 7 = false ∧
      Config.regAddrSet scenario5.f7 = false) ∧
    (scenario6.f0 = 0xAA ∧ scenario6.f1 = 0x55 ∧ crc5 scenario6.span ≠ 0x00) ∧ (0xAB : Byte) ≠ 0xAA := by
  decide +kernel
theorem witness_VcheckLatchesTheVerdict :
    (holding scenario3.toList).rxb = scenario3.toList ∧ (holding scenario3.toList).rxn = 9 ∧
      (holding [0, 1, 2, 3, 4, 5, 6, 7]).rxn ≠ 9 ∧
      (holding scenario3.toList).rxb = [0xAA, 0x55, 0x13, 0x97, 0x18, 0x00, 0x00, 0x00, 0x06] := by decide
theorem witness_FrameErrorCausesAndPriority :
    (validate Config.regAddrSet scenario5).vst = .errUnkreg ∧ (validate Config.regAddrSet scenario6).vst = .errCrc ∧
      (validate Config.regAddrSet ⟨0, 0, 0, 0, 0, 0, 0, 0, 0⟩).vst = .errPreamble := by decide +kernel
theorem witness_JobResponseIsNeverLookedUp :
    scenario4.f0 = 0xAA ∧ scenario4.f1 = 0x55 ∧ crc5 scenario4.span = 0x00 ∧ scenario4.f8.getLsbD 7 = true := by
  decide +kernel
theorem witness_OneInThirtyTwoSpansPasses : crc5 (spanOf 0x13971800000006#56) = 0x00 := by decide +kernel
theorem witness_VreadReturnsTheSelectedRegister :
    ((checked scenario3).vst = .reg ∧ (checked scenario3).vpay = some 0x13971800 ∧ (checked scenario3).vb6 = some 0) ∧
    ((checked scenario5).vst = .errUnkreg ∧ (checked scenario5).vb7 = some 0xF0 ∧
      (checked scenario5).vtrl = some 0x03) ∧
    (State.reset.vst ≠ .reg ∧ State.reset.vst ≠ .job ∧ State.reset.vst ≠ .errUnkreg) ∧
    (holding scenario4.toList).rxb = [0xAA, 0x55, 0x97, 0xC3, 0x28, 0xB6, 0x01, 0x63, 0x9C] := by decide +kernel
/-- For ResultRegistersHoldAsTheTableSays and ResultRegistersAreCopiesOfTheFrame. -/
theorem witness_ResultRegisters :
    (checked scenario4).Consistent ∧ (checked scenario4).vpay.isSome = true ∧
      (checked scenario6).Consistent ∧ (checked scenario6).vpay = none ∧
      (checked scenario5).Consistent ∧ (checked scenario5).vb6 = none ∧ (checked scenario5).vtrl = some 0x03 :=
  ⟨consistent_checked _, by decide +kernel, consistent_checked _, by decide +kernel, consistent_checked _,
    by decide +kernel, by decide +kernel⟩
theorem witness_VcheckIsIdempotent :
    (holding scenario4.toList).rxn = 9 ∧ ∀ i ∈ [Instr.c5byte 0x01, .c16init, .vread .status], keepsResults i = true := by
  decide
theorem witness_BufferHoldsTheFirstNineBytesPushed :
    (∀ i ∈ List.replicate 10 (Instr.vpush 0x01), i ≠ .vclr ∧ i ≠ .vcheck) ∧
      9 < ((List.replicate 10 (Instr.vpush 0x01)).flatMap pushed).length := by decide
theorem witness_EveryStepKeepsConsistency :
    (offer 0xB00 (checked scenario4)).Consistent ∧ (after (step (offer 0xB00 (checked scenario4)))).isSome = true :=
  ⟨by simpa [State.Consistent, offer, State.results] using consistent_checked scenario4, by
    rw [step_command (w := 0xB00) rfl]; rfl⟩
theorem witness_RxnCountsAndStopsAtNine :
    (after (exec (.vpush 0x77) (holding [0, 1, 2, 3, 4, 5, 6, 7]))).isSome = true ∧
      (holding [0, 1, 2, 3, 4, 5, 6, 7]).rxn < 9 ∧ (holding scenario3.toList).rxn ≤ 9 ∧
      (after (run 1 (offer 0xA77 (holding scenario3.toList)))).isSome = true := by decide
theorem witness_VstCodesAndWriters :
    (after (exec .vcheck (holding scenario3.toList))).isSome = true ∧ (holding scenario3.toList).rxn = 9 := by
  decide +kernel
theorem witness_AtMostOneUsageFault :
    usageOf (.vpush 0) (checked scenario3) = some .rxOverrun ∧ (checked scenario3).Consistent ∧
      usageOf .vcheck State.reset = some .rxUnderrun ∧ usageOf (.vread .b6) State.reset = some .noResult ∧
      usageOf (.vread .b6) (checked scenario3) = none ∧ State.reset.Consistent ∧ ¬ ∃ i, decode 0xFFF = .ok i :=
  ⟨by decide, consistent_checked _, by decide, by decide, by decide +kernel, consistent_reset,
    witness_IllegalWordsRaiseIllegalOp.1⟩
theorem witness_OnlyReadsThatDoNotFaultRespond :
    (∀ (w : Command) (q : List Event), State.reset.pending ≠ .command w :: q) ∧
      (after (step State.reset)).isSome = true := ⟨fun _ _ h => (nomatch h), by decide⟩
theorem witness_ReadsChangeNothing : (Instr.vread .payload).wellFormed = true ∧ isRead (.vread .payload) = true := by
  decide
theorem witness_UnitsDoNotDisturbOneAnother :
    State.agreeOn (unitOf (.c5byte 0x01)) State.reset (checked scenario3) ∧
      State.agreeOn (unitOf (.vread .faults)) State.reset { State.reset with c5 := 0 } ∧
      State.reset.flt = State.flt { State.reset with c5 := 0 } := ⟨rfl, rfl, rfl⟩
theorem witness_OperationClassesAndFrames :
    (after (exec (.c5bit true) State.reset)).isSome = true ∧ (after (exec (.c16bit true) State.reset)).isSome = true ∧
      (after (exec .vclr State.reset)).isSome = true ∧ (after (exec (.vpush 0xAA) State.reset)).isSome = true ∧
      (after (exec .vcheck State.reset)).isSome = true ∧ (after (exec (.vread .b6) State.reset)).isSome = true := by
  decide
theorem witness_CleanEndMeansCleanRun :
    (∀ e ∈ (offer 0x352 (offer 0x400 State.reset)).pending, e ≠ .reset) ∧
      ((after (run 2 (offer 0x352 (offer 0x400 State.reset)))).map (·.clean)) = some true := by decide

end Sys2Proof.Tests
end

section
/-! The members of `REG_ADDR_SET` that R3 fixes, whatever the open parameter answers elsewhere. -/

namespace Sys2Proof

@[simp] theorem regAddrSet_00 : Config.regAddrSet 0x00 = true := if_pos (.inl rfl)

@[simp] theorem regAddrSet_80 : Config.regAddrSet 0x80 = true := if_pos (.inr rfl)

/-- 0xF0 is neither of the two known members, so the second test of the definition answers for it. -/
@[simp] theorem regAddrSet_F0 : Config.regAddrSet 0xF0 = false := by
  have not_known_member : ¬((0xF0 : Byte) = 0x00 ∨ (0xF0 : Byte) = 0x80) := by decide
  exact (if_neg not_known_member).trans (if_pos rfl)

/-- Settles O60: each of the three constraints of R3 is decided before the open parameter is asked. -/
theorem knownRegisterAddresses : Obligations.KnownRegisterAddresses :=
  ⟨regAddrSet_00, regAddrSet_80, regAddrSet_F0⟩

end Sys2Proof
end

section
/-! What one step can do, said once, and the induction along a run (20_memory.md R50, 70_reset_and_hazards.md R231). -/

namespace Sys2Proof.Machine

/-- Every step waits, resets, raises ILLEGAL_OP for an illegal word, or executes the operation of a legal one. -/
theorem step_cases {s t : State} (h : step s = .next t) :
    (s.pending = [] ∧ t = returnNothing s) ∨
    (∃ q, s.pending = .reset :: q ∧ t = resetEvent { s with pending := q }) ∨
    (∃ w q e, s.pending = .command w :: q ∧ decode w = .error e ∧ t = raiseUsage .illegalOp { s with pending := q }) ∨
    (∃ w q i, s.pending = .command w :: q ∧ decode w = .ok i ∧ exec i { s with pending := q } = .next t) := by
  cases hp : s.pending with
  | nil => rw [step_nil hp] at h; cases h; exact .inl ⟨rfl, rfl⟩
  | cons e q =>
    cases e with
    | reset => rw [step_reset hp] at h; cases h; exact .inr (.inl ⟨q, rfl, rfl⟩)
    | command w =>
      rw [step_command hp] at h
      cases hd : decode w with
      | error e => rw [issue_illegal hd] at h; cases h; exact .inr (.inr (.inl ⟨w, q, e, rfl, hd, rfl⟩))
      | ok i => rw [issue_legal hd] at h; exact .inr (.inr (.inr ⟨w, q, i, rfl, hd, h⟩))

/-- Every step answers a next state (R231). -/
theorem step_next (s : State) : ∃ t, step s = .next t := by
  cases hp : s.pending with
  | nil => exact ⟨_, step_nil hp⟩
  | cons e q =>
    cases e with
    | reset => exact ⟨_, step_reset hp⟩
    | command w =>
      rw [step_command hp]
      cases hd : decode w with
      | error e => exact ⟨_, issue_illegal hd _⟩
      | ok i => rw [issue_legal hd]; exact exec_next i _

/-- The first step of a run, and the run that remains. -/
theorem run_succ_cases {n : Nat} {s t : State} (h : run (n + 1) s = .next t) :
    ∃ u, step s = .next u ∧ run n u = .next t := by
  obtain ⟨u, hu⟩ := step_next s
  exact ⟨u, hu, run_succ hu ▸ h⟩

/-- What every step keeps holds at the end of every run. -/
theorem run_keeps {P : State → Prop} (keep : ∀ s t, P s → step s = .next t → P t) {n : Nat} {s t : State}
    (hs : P s) (h : run n s = .next t) : P t := by
  induction n generalizing s with
  | zero => cases h; exact hs
  | succ n ih =>
    obtain ⟨u, hu, hrun⟩ := run_succ_cases h
    exact ih (keep s u hs hu) hrun

end Sys2Proof.Machine
end

section
/-! The invariant of the reachable states, `State.Consistent`, is about the validator's registers alone, and every step
keeps it (10_state.md R22, R23, R34; 43_rx_validator.md R163). -/

namespace Sys2Proof.Machine

theorem State.Consistent.of_same_validator {s t : State} (hs : s.Consistent) (hrxb : t.rxb = s.rxb)
    (hres : t.results = s.results) : t.Consistent := by
  rwa [State.Consistent, hrxb, hres]

theorem consistent_of_cleared {t : State} (hrxb : t.rxb = []) (hres : t.results = .cleared) : t.Consistent :=
  ⟨by simp [hrxb], .inl hres⟩

/-- With room in the buffer no verdict stands, since a verdict needs nine bytes held (R161, R163). -/
theorem State.Consistent.cleared_of_room {s : State} (hs : s.Consistent) (room : s.rxn ≠ 9) : s.results = .cleared := by
  obtain ⟨-, hc | ⟨f, hf, -⟩⟩ := hs
  · exact hc
  · exact absurd (by rw [rxn_eq, hf, toList_length]) room

/-- Every operation keeps the invariant. VPUSH is the case that turns on it: a verdict stands for nine bytes only, and
then VPUSH is refused. -/
theorem exec_consistent {i : Instr} {s t : State} (hs : s.Consistent) (h : exec i s = .next t) : t.Consistent := by
  rcases exec_cases h with ⟨_, -, -, rfl⟩ | ⟨_, -, -, rfl⟩ | ⟨-, rfl⟩ | ⟨b, -, room, rfl⟩ | ⟨f, -, hf, rfl⟩ |
    ⟨_, -, rfl⟩ | ⟨_, rfl, -⟩
  · exact hs.of_same_validator rfl rfl
  · exact hs.of_same_validator rfl rfl
  · exact consistent_of_cleared rfl rfl
  · exact ⟨pushByte_length_le b hs.1 room, .inl (hs.cleared_of_room room)⟩
  · exact ⟨hs.1, .inr ⟨f, hf, rfl⟩⟩
  · exact hs.of_same_validator rfl rfl
  · exact hs.of_same_validator rfl rfl

theorem step_consistent {s t : State} (hs : s.Consistent) (h : step s = .next t) : t.Consistent := by
  rcases step_cases h with ⟨-, rfl⟩ | ⟨q, -, rfl⟩ | ⟨w, q, e, -, -, rfl⟩ | ⟨w, q, i, -, -, hi⟩
  · exact hs.of_same_validator rfl rfl
  · exact consistent_of_cleared rfl rfl
  · exact hs.of_same_validator rfl rfl
  · have port_taken : State.Consistent { s with pending := q } := hs.of_same_validator rfl rfl
    exact exec_consistent port_taken hi

/-- Settles O49: the wait and the faults leave the validator alone, reset clears it, and of the operations only those
of `exec_consistent` write it. -/
theorem everyStepKeepsConsistency : Obligations.EveryStepKeepsConsistency :=
  fun _ _ hs h => step_consistent hs h

end Sys2Proof.Machine
end

section
/-! Which result registers hold a value (10_state.md R34). -/

namespace Sys2Proof.Machine

theorem carriesPayload_iff (v : Verdict) : v.carriesPayload = true ↔ v = .reg ∨ v = .job := by
  cases v <;> decide

theorem carriesAddress_iff (v : Verdict) : v.carriesAddress = true ↔ v = .reg ∨ v = .job ∨ v = .errUnkreg := by
  cases v <;> decide

/-- The table of R34 for a verdict with its fields. -/
def CheckResult.FollowsTable (r : CheckResult) : Prop :=
  r.vpay.isSome = r.vst.carriesPayload ∧ r.vb6.isSome = r.vst.carriesPayload ∧
    r.vb7.isSome = r.vst.carriesAddress ∧ r.vtrl.isSome = r.vst.carriesAddress

theorem cleared_followsTable : CheckResult.cleared.FollowsTable := ⟨rfl, rfl, rfl, rfl⟩

theorem validate_followsTable (known : Byte → Bool) (f : Frame) : (validate known f).FollowsTable := by
  rcases validate_cases known f with h | h | ⟨-, -, h⟩ | ⟨-, -, h⟩ | ⟨-, -, h⟩ <;>
    exact h ▸ ⟨rfl, rfl, rfl, rfl⟩

theorem State.Consistent.followsTable {s : State} (hs : s.Consistent) : s.results.FollowsTable := by
  obtain ⟨-, hc | ⟨f, -, hv⟩⟩ := hs
  · exact hc ▸ cleared_followsTable
  · exact hv ▸ validate_followsTable _ f

theorem next_readResult_of_eq_none {n : Nat} {r : Option (BitVec n)} (carried : Bool) (s : State) (hr : r = none) :
    (.next (readResult carried r s) : Host.Outcome State Fault Refusal) = .next (raiseUsage .noResult s) := by
  rw [hr, readResult_empty]

/-- Settles O44: the invariant gives the table, and VREAD of an empty register is NO_RESULT under any verdict. -/
theorem resultRegistersHoldAsTheTableSays : Obligations.ResultRegistersHoldAsTheTableSays := by
  intro s hs
  obtain ⟨hpay, hb6, hb7, htrl⟩ : s.vpay.isSome = s.vst.carriesPayload ∧ s.vb6.isSome = s.vst.carriesPayload ∧
    s.vb7.isSome = s.vst.carriesAddress ∧ s.vtrl.isSome = s.vst.carriesAddress := hs.followsTable
  rw [hpay, hb6, hb7, htrl, carriesPayload_iff, carriesAddress_iff]
  exact ⟨.rfl, .rfl, .rfl, .rfl, next_readResult_of_eq_none _ s, next_readResult_of_eq_none _ s,
    next_readResult_of_eq_none _ s, next_readResult_of_eq_none _ s⟩

end Sys2Proof.Machine
end

section
/-! The result registers against the frame held (10_state.md R25 to R28), and the check bits of the trailer
(43_rx_validator.md R170). -/

namespace Sys2Proof.Machine

/-- Fed its own top bit, the generator only shifts. -/
theorem crc5bit_msb (c : BitVec 5) : crc5bit c (c.getMsbD 0) = c <<< 1 := by
  simp [crc5bit, BitVec.getMsbD]

/-- The lowest bit after a step is the feedback: the polynomial ends in 1 (R100). -/
theorem crc5bit_lowest (c : BitVec 5) (d : Bool) : (crc5bit c d).getMsbD 4 = (c.getMsbD 0 ^^ d) := by
  have top : c.getMsbD 0 = c.getLsbD 4 := by simp [BitVec.getMsbD]
  have shifted : (c <<< 1).getMsbD 4 = false := by simp [BitVec.getMsbD]
  rw [crc5bit, BitVec.getMsbD_xor, shifted, top]
  cases c.getLsbD 4 ^^ d <;> rfl

/-- Up to five bits bring the generator to zero exactly when they are its own top bits and the rest of it is zero: a bit
that differs feeds back into the lowest place, where the bits still to come do not reach it. -/
theorem crc5bits_eq_zero_iff {ds : List Bool} (hlen : ds.length ≤ 5) (c : BitVec 5) :
    crc5bits c ds = 0 ↔ ∀ i, c.getMsbD i = ds.getD i false := by
  induction ds generalizing c with
  | nil =>
    simp only [crc5bits_nil, List.getD_nil]
    exact ⟨fun h i => h ▸ BitVec.getMsbD_zero,
      fun h => BitVec.eq_of_getMsbD_eq fun i _ => (h i).trans BitVec.getMsbD_zero.symm⟩
  | cons d ds ih =>
    have room : ds.length ≤ 4 := Nat.le_of_succ_le_succ hlen
    rw [crc5bits_cons, ih (by omega), ← Nat.and_forall_add_one (p := fun i => c.getMsbD i = _)]
    simp only [List.getD_cons_zero, List.getD_cons_succ]
    by_cases hd : c.getMsbD 0 = d
    · subst hd
      simp [crc5bit_msb, BitVec.getMsbD_shiftLeft]
    · refine ⟨fun h => absurd ?_ hd, fun h => absurd h.1 hd⟩
      have lowest := (h 4).trans (List.getD_eq_default _ _ room)
      simpa [crc5bit_lowest] using lowest

/-- The check bits of a trailer as they are fed, most significant first. -/
def checkBits (b : Byte) : List Bool := [b.getLsbD 4, b.getLsbD 3, b.getLsbD 2, b.getLsbD 1, b.getLsbD 0]

theorem trailerChk_getMsbD (b : Byte) (i : Nat) : (trailerChk b).getMsbD i = (checkBits b).getD i false := by
  match i with
  | 0 | 1 | 2 | 3 | 4 => simp [trailerChk, checkBits, BitVec.getMsbD]
  | i + 5 => simp [trailerChk, checkBits, BitVec.getMsbD]

theorem span_bits (f : Frame) : f.span.flatMap bitsMsbFirst = f.bits51 ++ checkBits f.f8 := rfl

/-- Step 2 of R162 passes exactly when the check bits are the CRC-5 of the 51 bits before them (R170). -/
theorem crcGood_iff (f : Frame) : f.crcGood = true ↔ trailerChk f.f8 = f.crc51 := by
  have fed : crc5 f.span = crc5bits f.crc51 (checkBits f.f8) := by
    rw [crc5_eq_bits, span_bits, crc5bits_append]; rfl
  rw [Frame.crcGood, beq_iff_eq, fed, crc5bits_eq_zero_iff (by simp [checkBits])]
  simp only [← trailerChk_getMsbD]
  exact ⟨fun h => BitVec.eq_of_getMsbD_eq fun i _ => (h i).symm, fun h i => h ▸ rfl⟩

/-- The fields `validate` gives are the bytes of the frame, and a trailer is given only after its check bits passed. -/
theorem validate_fields (known : Byte → Bool) (f : Frame) :
    (∀ v, (validate known f).vpay = some v → v = f.payload) ∧
    (∀ v, (validate known f).vb6 = some v → v = f.f6) ∧
    (∀ v, (validate known f).vb7 = some v → v = f.f7) ∧
    (∀ v, (validate known f).vtrl = some v →
      v = f.f8 ∧ f.crcGood = true ∧ (trailerTyp f.f8 = true ↔ (validate known f).vst = .job)) := by
  rcases validate_cases known f with h | h | ⟨hcrc, htyp, h⟩ | ⟨hcrc, htyp, h⟩ | ⟨hcrc, htyp, h⟩ <;> rw [h]
  · simp
  · simp
  · simp [hcrc, htyp, eq_comm]
  · simp [hcrc, htyp, eq_comm]
  · simp [hcrc, htyp, eq_comm]

theorem results_eq_iff (s : State) (r : CheckResult) :
    s.results = r ↔ s.vst = r.vst ∧ s.vpay = r.vpay ∧ s.vb6 = r.vb6 ∧ s.vb7 = r.vb7 ∧ s.vtrl = r.vtrl := by
  cases r; simp [State.results]

/-- Settles O45: cleared registers hold nothing; the others are what `validate` gives for the frame in the buffer. -/
theorem resultRegistersAreCopiesOfTheFrame : Obligations.ResultRegistersAreCopiesOfTheFrame := by
  rintro s ⟨-, hc | ⟨f, hf, hv⟩⟩
  · obtain ⟨-, hpay, hb6, hb7, htrl⟩ := (results_eq_iff s _).1 hc
    simp [hpay, hb6, hb7, htrl, CheckResult.cleared]
  · obtain ⟨hvst, hpay, hb6, hb7, htrl⟩ := (results_eq_iff s _).1 hv
    obtain ⟨payload, byte6, byte7, trailer⟩ := validate_fields Config.regAddrSet f
    rw [hvst, hpay, hb6, hb7, htrl, hf]
    refine ⟨fun v h => ⟨f, rfl, payload v h⟩, fun v h => ?_, fun v h => ?_, fun v h => ?_⟩
    · rw [byte6 v h]; rfl
    · rw [byte7 v h]; rfl
    · obtain ⟨rfl, good, typ⟩ := trailer v h
      exact ⟨rfl, typ, f, rfl, (crcGood_iff f).1 good⟩

end Sys2Proof.Machine
end

section
/-! What writes `RXN` and `VST`, and the values right after reset (10_state.md R20 to R29, 70_reset_and_hazards.md
R220). -/

namespace Sys2Proof.Machine

theorem exec_rxn_of_not_writer {i : Instr} {s t : State} (h : exec i s = .next t) (notClr : i ≠ .vclr)
    (notPush : ∀ b, i ≠ .vpush b) : t.rxn = s.rxn := by
  rcases exec_cases h with ⟨_, -, -, rfl⟩ | ⟨_, -, -, rfl⟩ | ⟨clr, -⟩ | ⟨b, push, -, -⟩ | ⟨_, -, -, rfl⟩ |
    ⟨_, -, rfl⟩ | ⟨_, rfl, -⟩
  · rfl
  · rfl
  · exact absurd clr notClr
  · exact absurd push (notPush b)
  · rfl
  · rfl
  · rfl

theorem exec_rxn_le {i : Instr} {s t : State} (hs : s.rxn ≤ 9) (h : exec i s = .next t) : t.rxn ≤ 9 := by
  rcases exec_cases h with ⟨_, -, -, rfl⟩ | ⟨_, -, -, rfl⟩ | ⟨-, rfl⟩ | ⟨b, -, room, rfl⟩ | ⟨_, -, -, rfl⟩ |
    ⟨_, -, rfl⟩ | ⟨_, rfl, -⟩
  · exact hs
  · exact hs
  · exact Nat.zero_le 9
  · exact pushByte_length_le b hs room
  · exact hs
  · exact hs
  · exact hs

theorem step_rxn_le {s t : State} (hs : s.rxn ≤ 9) (h : step s = .next t) : t.rxn ≤ 9 := by
  rcases step_cases h with ⟨-, rfl⟩ | ⟨q, -, rfl⟩ | ⟨w, q, e, -, -, rfl⟩ | ⟨w, q, i, -, -, hi⟩
  · exact hs
  · exact Nat.zero_le 9
  · exact hs
  · have port_taken : State.rxn { s with pending := q } ≤ 9 := hs
    exact exec_rxn_le port_taken hi

theorem step_of_reset {s t : State} {q : List Event} (hp : s.pending = .reset :: q) (h : step s = .next t) :
    t = resetEvent { s with pending := q } := by
  rw [step_reset hp] at h; cases h; rfl

/-- Settles O52: by what each operation does to the buffer, and the bound along a run from the bound over a step. -/
theorem rxnCountsAndStopsAtNine : Obligations.RxnCountsAndStopsAtNine := by
  refine ⟨rfl, fun s t q hp h => step_of_reset hp h ▸ rfl, fun i s t h => ⟨?_, ?_, ?_, ?_⟩,
    fun n s t hs h => run_keeps (P := fun s => s.rxn ≤ 9) (fun _ _ => step_rxn_le) hs h⟩
  · rintro rfl
    cases h; rfl
  · rintro b rfl room
    rw [exec_vpush_room b (by omega)] at h
    cases h
    simp [rxn_eq]
  · rintro b rfl full
    rw [exec_vpush_full b full] at h
    cases h
    exact ⟨full, by simp [Usage.mask]⟩
  · exact exec_rxn_of_not_writer h

theorem exec_vst_of_not_writer {i : Instr} {s t : State} (h : exec i s = .next t) (notClr : i ≠ .vclr)
    (notCheck : i ≠ .vcheck) : t.vst = s.vst := by
  rcases exec_cases h with ⟨_, -, -, rfl⟩ | ⟨_, -, -, rfl⟩ | ⟨clr, -⟩ | ⟨_, -, -, rfl⟩ | ⟨_, check, -, -⟩ |
    ⟨_, -, rfl⟩ | ⟨_, rfl, -⟩
  · rfl
  · rfl
  · exact absurd clr notClr
  · rfl
  · exact absurd check notCheck
  · rfl
  · rfl

theorem validate_vst_ne_idle (known : Byte → Bool) (f : Frame) : (validate known f).vst ≠ .idle := by
  rcases validate_cases known f with h | h | ⟨-, -, h⟩ | ⟨-, -, h⟩ | ⟨-, -, h⟩ <;> simp [h]

/-- Settles O53: VCHECK on nine bytes latches a verdict of `validate`, and that is never V_IDLE. -/
theorem vstCodesAndWriters : Obligations.VstCodesAndWriters := by
  refine ⟨⟨rfl, rfl, rfl, rfl, rfl, rfl⟩, fun v => by cases v <;> decide, fun i s t h => ⟨?_, ?_, ?_⟩, rfl,
    fun s t q hp h => step_of_reset hp h ▸ rfl⟩
  · rintro rfl
    cases h; rfl
  · rintro rfl full
    obtain ⟨f, hf⟩ := exists_frame full
    rw [exec_vcheck_full hf] at h
    cases h
    exact validate_vst_ne_idle _ f
  · exact exec_vst_of_not_writer h

/-- Settles O51: the fields of the reset state, each the constant its rule names. -/
theorem resetValues : Obligations.ResetValues :=
  ⟨reset_c5, reset_c16, reset_rxb, rfl, rfl, rfl, rfl, rfl, rfl, reset_flt⟩

end Sys2Proof.Machine
end

section
/-! The three units do not disturb one another (10_state.md R33): what an operation leaves alone, and what it depends
on. -/

namespace Sys2Proof.Machine

theorem agreeOn_setC5 {u : BlockUnit} (hu : u ≠ .crc5) (v : BitVec 5) (s : State) : s.agreeOn u (setC5 v s) := by
  cases u
  case crc5 => exact absurd rfl hu
  all_goals rfl

theorem agreeOn_setC16 {u : BlockUnit} (hu : u ≠ .crc16) (v : BitVec 16) (s : State) : s.agreeOn u (setC16 v s) := by
  cases u
  case crc16 => exact absurd rfl hu
  all_goals rfl

/-- A change that keeps both accumulators shows in the validator only. -/
theorem agreeOn_of_same_accumulators {u : BlockUnit} {s t : State} (hu : u ≠ .validator) (h5 : s.c5 = t.c5)
    (h16 : s.c16 = t.c16) : s.agreeOn u t := by
  cases u
  case crc5 => exact h5
  case crc16 => exact h16
  case validator => exact absurd rfl hu

theorem agreeOn_respond (u : BlockUnit) (v : Word32) (s : State) : s.agreeOn u (respond v s) := by
  cases u <;> rfl

theorem agreeOn_raiseUsage (u : BlockUnit) (fault : Usage) (s : State) : s.agreeOn u (raiseUsage fault s) := by
  cases u <;> rfl

/-- The frame: an operation leaves the other two units as they were. -/
theorem exec_agreeOn_other {i : Instr} {s t : State} (h : exec i s = .next t) {u : BlockUnit} (hu : u ≠ unitOf i) :
    s.agreeOn u t := by
  rcases exec_cases h with ⟨v, own, -, rfl⟩ | ⟨v, own, -, rfl⟩ | ⟨rfl, rfl⟩ | ⟨b, rfl, -, rfl⟩ | ⟨f, rfl, -, rfl⟩ |
    ⟨v, -, rfl⟩ | ⟨fault, rfl, -⟩
  · exact agreeOn_setC5 (own ▸ hu) v s
  · exact agreeOn_setC16 (own ▸ hu) v s
  · exact agreeOn_of_same_accumulators hu rfl rfl
  · exact agreeOn_of_same_accumulators hu rfl rfl
  · exact agreeOn_of_same_accumulators hu rfl rfl
  · exact agreeOn_respond u v s
  · exact agreeOn_raiseUsage u fault s

theorem agreeOn_validator_iff (s t : State) :
    s.agreeOn .validator t ↔ s.rxb = t.rxb ∧ s.vst = t.vst ∧ s.vpay = t.vpay ∧ s.vb6 = t.vb6 ∧ s.vb7 = t.vb7 ∧
      s.vtrl = t.vtrl := by
  simp [State.agreeOn, State.validatorRegs, State.results]

/-- `t` and `t'` cannot be told apart through the unit `u`: its registers and what was returned are the same. -/
def SameThrough (u : BlockUnit) (t t' : State) : Prop := t.agreeOn u t' ∧ t'.resp = t.resp

theorem respond_sameThrough {u : BlockUnit} {s s' : State} (own : s.agreeOn u s') (v : Word32) :
    SameThrough u (respond v s) (respond v s') := by
  cases u <;> exact ⟨own, rfl⟩

theorem raiseUsage_sameThrough {u : BlockUnit} {s s' : State} (own : s.agreeOn u s') (fault : Usage) :
    SameThrough u (raiseUsage fault s) (raiseUsage fault s') := by
  cases u <;> exact ⟨own, rfl⟩

theorem readResult_sameThrough {n : Nat} {u : BlockUnit} {s s' : State} (own : s.agreeOn u s') (carried : Bool)
    (r : Option (BitVec n)) : SameThrough u (readResult carried r s) (readResult carried r s') := by
  cases carried with
  | false => exact raiseUsage_sameThrough own .noResult
  | true =>
    cases r with
    | none => exact raiseUsage_sameThrough own .noResult
    | some v => exact respond_sameThrough own (zext32 v)

theorem exec_vread_sameThrough {s s' : State} (own : s.agreeOn .validator s') (sel : Selector)
    (flt : sel = .faults → s.flt = s'.flt) {t : State} (h : exec (.vread sel) s = .next t) :
    ∃ t', exec (.vread sel) s' = .next t' ∧ SameThrough .validator t t' := by
  obtain ⟨rxb, vst, vpay, vb6, vb7, vtrl⟩ := (agreeOn_validator_iff s s').1 own
  cases sel <;> cases h <;> refine ⟨_, rfl, ?_⟩
  case status => exact vst ▸ respond_sameThrough own _
  case payload => exact vst ▸ vpay ▸ readResult_sameThrough own _ _
  case b6 => exact vst ▸ vb6 ▸ readResult_sameThrough own _ _
  case b7 => exact vst ▸ vb7 ▸ readResult_sameThrough own _ _
  case trailer => exact vst ▸ vtrl ▸ readResult_sameThrough own _ _
  case count => exact rxn_eq s' ▸ rxb ▸ respond_sameThrough own _
  case faults => exact flt rfl ▸ respond_sameThrough own _
  case reserved => exact raiseUsage_sameThrough own .illegalOp

/-- An operation does the same to its own unit, and returns the same, in any two states that agree on that unit. -/
theorem exec_sameThrough {i : Instr} {s s' t : State} (own : s.agreeOn (unitOf i) s')
    (flt : i = .vread .faults → s.flt = s'.flt) (h : exec i s = .next t) :
    ∃ t', exec i s' = .next t' ∧ SameThrough (unitOf i) t t' := by
  cases i with
  | c5init => cases h; exact ⟨_, rfl, rfl, rfl⟩
  | c5bit d => cases h; exact ⟨_, rfl, congrArg (crc5bit · d) own, rfl⟩
  | c5byte b => cases h; exact ⟨_, rfl, congrArg (crc5byte · b) own, rfl⟩
  | c5read => cases h; exact ⟨_, rfl, own, congrArg (some ∘ zext32) own.symm⟩
  | c16init => cases h; exact ⟨_, rfl, rfl, rfl⟩
  | c16bit d => cases h; exact ⟨_, rfl, congrArg (crc16bit Config.crc16Params · d) own, rfl⟩
  | c16byte b => cases h; exact ⟨_, rfl, congrArg (crc16byte Config.crc16Params · b) own, rfl⟩
  | c16read => cases h; exact ⟨_, rfl, own, congrArg (some ∘ zext32 ∘ crc16fin Config.crc16Params) own.symm⟩
  | vclr => cases h; exact ⟨_, rfl, rfl, rfl⟩
  | vpush b =>
    obtain ⟨rxb, -⟩ := (agreeOn_validator_iff s s').1 own
    have rxn : s.rxn = s'.rxn := congrArg List.length rxb
    by_cases full : s.rxn = 9
    · rw [exec_vpush_full b full] at h; cases h
      exact ⟨_, exec_vpush_full b (rxn ▸ full), raiseUsage_sameThrough own _⟩
    · rw [exec_vpush_room b full] at h; cases h
      exact ⟨_, exec_vpush_room b (rxn ▸ full),
        congrArg (fun v : List Byte × CheckResult => (v.1 ++ [b], v.2)) own, rfl⟩
  | vcheck =>
    obtain ⟨rxb, -⟩ := (agreeOn_validator_iff s s').1 own
    have rxn : s.rxn = s'.rxn := congrArg List.length rxb
    by_cases full : s.rxn = 9
    · obtain ⟨f, hf⟩ := exists_frame full
      rw [exec_vcheck_full hf] at h; cases h
      exact ⟨_, exec_vcheck_full (rxb ▸ hf), congrArg (·, validate Config.regAddrSet f) rxb, rfl⟩
    · rw [exec_vcheck_short full] at h; cases h
      exact ⟨_, exec_vcheck_short (rxn ▸ full), raiseUsage_sameThrough own _⟩
  | vread sel => exact exec_vread_sameThrough own sel (fun hsel => flt (hsel ▸ rfl)) h

/-- Settles O57: the frame of an operation, and what it depends on. -/
theorem unitsDoNotDisturbOneAnother : Obligations.UnitsDoNotDisturbOneAnother := by
  intro i s
  obtain ⟨t, h⟩ := exec_next i s
  exact ⟨t, h, fun _ hu => exec_agreeOn_other h hu, fun _ own flt => exec_sameThrough own flt h⟩

end Sys2Proof.Machine
end

section
/-! `FLT` is sticky until reset (10_state.md R29, 60_exceptions.md R204). -/

namespace Sys2Proof.Machine

theorem exec_flt_sticky {i : Instr} {s t : State} (h : exec i s = .next t) : s.flt &&& t.flt = s.flt := by
  rcases exec_cases h with ⟨_, -, -, rfl⟩ | ⟨_, -, -, rfl⟩ | ⟨-, rfl⟩ | ⟨_, -, -, rfl⟩ | ⟨_, -, -, rfl⟩ |
    ⟨_, -, rfl⟩ | ⟨fault, rfl, -⟩
  · exact BitVec.and_self
  · exact BitVec.and_self
  · exact BitVec.and_self
  · exact BitVec.and_self
  · exact BitVec.and_self
  · exact BitVec.and_self
  · exact raiseUsage_flt_sticky fault s

theorem step_flt_sticky {s t : State} (noReset : ∀ q, s.pending ≠ .reset :: q) (h : step s = .next t) :
    s.flt &&& t.flt = s.flt := by
  rcases step_cases h with ⟨-, rfl⟩ | ⟨q, hp, -⟩ | ⟨w, q, e, -, -, rfl⟩ | ⟨w, q, i, -, -, hi⟩
  · exact BitVec.and_self
  · exact absurd hp (noReset q)
  · exact raiseUsage_flt_sticky .illegalOp _
  · exact exec_flt_sticky (s := { s with pending := q }) hi

/-- A clean state has a clean past, up to the last reset. -/
theorem clean_of_step {s t : State} (noReset : ∀ q, s.pending ≠ .reset :: q) (h : step s = .next t)
    (clean : t.clean = true) : s.clean = true := by
  have sticky := step_flt_sticky noReset h
  rw [State.clean, beq_iff_eq] at clean ⊢
  rw [← sticky, clean]
  exact BitVec.and_zero

theorem safeRun_zero {s : State} : SafeRun 0 s ↔ s.clean = true :=
  ⟨fun ⟨_, h, clean⟩ => by cases h; exact clean, fun clean => ⟨s, rfl, clean⟩⟩

theorem safeRun_succ {n : Nat} {s t : State} (h : step s = .next t) : SafeRun (n + 1) s ↔ SafeRun n t := by
  simp only [SafeRun, run_succ h]

/-- Settles O59, by induction on the run: the rest of it is clean after each of its steps, so the state after the first
step is clean, and hence the first state is. -/
theorem cleanEndMeansCleanRun : Obligations.CleanEndMeansCleanRun := by
  intro n
  induction n with
  | zero =>
    intro s t _ h clean k hk
    obtain rfl : k = 0 := Nat.le_zero.1 hk
    exact ⟨t, h, clean⟩
  | succ n ih =>
    intro s t noReset h clean k hk
    obtain ⟨u, hu, rest⟩ := run_succ_cases h
    have restClean : ∀ k ≤ n, SafeRun k u :=
      ih u t (fun e he => noReset e (List.mem_of_mem_tail (step_pending hu ▸ he))) rest clean
    cases k with
    | zero =>
      have notFirst : ∀ q, s.pending ≠ .reset :: q := fun q hp => noReset .reset (by simp [hp]) rfl
      exact safeRun_zero.2 (clean_of_step notFirst hu (safeRun_zero.1 (restClean 0 n.zero_le)))
    | succ k => exact (safeRun_succ hu).2 (restClean k (Nat.le_of_succ_le_succ hk))

end Sys2Proof.Machine
end

section
/-! What a command word on the port does: the step that takes it, and the run over the words of a list of operations
(20_memory.md R50, 30_encoding.md R60). -/

namespace Sys2Proof

theorem encode_op (i : Instr) : (encode i).op = i.op := op_of_word _ _

theorem encode_arg (i : Instr) : (encode i).arg = i.arg := arg_of_word _ _

/-- The word of an operation is read back as that operation (R61, R65). -/
theorem decode_encode {i : Instr} (wf : i.wellFormed = true) : decode (encode i) = .ok i := by
  cases i with
  | vread sel =>
    cases sel with
    | reserved => cases wf
    | _ => rfl
  | c5bit d => cases d <;> rfl
  | c16bit d => cases d <;> rfl
  | c5byte b => simp [decode, encode_op, encode_arg, Instr.op, Instr.arg]
  | c16byte b => simp [decode, encode_op, encode_arg, Instr.op, Instr.arg]
  | vpush b => simp [decode, encode_op, encode_arg, Instr.op, Instr.arg]
  | _ => rfl

/-- A numbered word that decodes fits the port, and the word on the port decodes. -/
theorem decodeTableWord_eq_some {nbits w : Nat} {i : Instr} (h : decodeTableWord nbits w = some i) :
    ∃ c, commandOfBits nbits w = some c ∧ decode c = .ok i := by
  unfold decodeTableWord at h
  split at h
  · cases h
  next c fits =>
    split at h
    next j dec => cases h; exact ⟨c, fits, dec⟩
    · cases h

namespace Machine

/-- The step that takes a legal word from the port executes its operation. -/
theorem step_legal {s : State} {w : Command} {q : List Event} {i : Instr} (hp : s.pending = .command w :: q)
    (hd : decode w = .ok i) : step s = exec i { s with pending := q } := by
  rw [step_command hp, issue_legal hd]

/-- Settles O6: the first word is taken from the port and issued. -/
theorem stepRunsTheDecodedInstruction : Obligations.StepRunsTheDecodedInstruction :=
  fun _ _ _ _ hp hd => step_legal hp hd

/-- Settles O7: the word fits the port, so it is offered first, and taking it leaves the state it was offered to. -/
theorem fetchWordRunsNext : Obligations.FetchWordRunsNext := by
  intro s nbits w i h
  obtain ⟨c, fits, dec⟩ := decodeTableWord_eq_some h
  rw [State.withFetchWord, fits]
  exact step_legal (offer_pending c s) dec

theorem readResult_withPending {n : Nat} (carried : Bool) (r : Option (BitVec n)) (s : State) (q : List Event) :
    readResult carried r { s with pending := q } = { readResult carried r s with pending := q } := by
  rcases readResult_cases carried r s with ⟨v, rfl, rfl, h⟩ | ⟨rfl | rfl, h⟩
  · rfl
  · rfl
  · simp only [readResult_empty]; rfl

/-- What an operation does does not depend on what waits on the port. -/
theorem exec_withPending {i : Instr} {s t : State} (h : exec i s = .next t) (q : List Event) :
    exec i { s with pending := q } = .next { t with pending := q } := by
  cases i with
  | vpush b =>
    by_cases full : s.rxn = 9
    · rw [exec_vpush_full b full] at h; cases h
      exact exec_vpush_full b full
    · rw [exec_vpush_room b full] at h; cases h
      exact exec_vpush_room b full
  | vcheck =>
    by_cases full : s.rxn = 9
    · obtain ⟨f, hf⟩ := exists_frame full
      rw [exec_vcheck_full hf] at h; cases h
      exact exec_vcheck_full hf
    · rw [exec_vcheck_short full] at h; cases h
      exact exec_vcheck_short full
  | vread sel =>
    cases sel with
    | payload | b6 | b7 | trailer => cases h; exact congrArg _ (readResult_withPending _ _ s q)
    | _ => cases h; rfl
  | _ => cases h; rfl

/-- With a list of operations on the port, a step executes the first and leaves the others on the port. -/
theorem step_offerAll_cons {i : Instr} (wf : i.wellFormed = true) (is : List Instr) {s t : State}
    (h : exec i s = .next t) : step (offerAll (i :: is) s) = .next (offerAll is t) := by
  have taken : step (offerAll (i :: is) s) = exec i (offerAll is s) := step_legal rfl (decode_encode wf)
  rw [taken, offerAll, exec_withPending h, offerAll, exec_pending h]

/-- Settles O12, by induction on the list: each step executes the first operation and leaves the rest to be run. -/
theorem runExecutesInIssueOrder : Obligations.RunExecutesInIssueOrder := by
  intro is
  induction is with
  | nil => intro s _; rfl
  | cons i is ih =>
    intro s wf
    obtain ⟨t, ht⟩ := exec_next i s
    rw [List.length_cons, run_succ (step_offerAll_cons (wf i List.mem_cons_self) is ht), execAll_cons ht]
    exact ih t fun j hj => wf j (List.mem_cons_of_mem i hj)

end Machine

end Sys2Proof
end

section
/-! The frame buffer against the bytes pushed (20_memory.md R41, 43_rx_validator.md R161): each operation but VCLR
appends what it pushes and keeps nine bytes at most. -/

namespace Sys2Proof.Machine

theorem pushed_eq_nil {i : Instr} (notPush : ∀ b, i ≠ .vpush b) : pushed i = [] := by
  cases i with
  | vpush b => exact absurd rfl (notPush b)
  | _ => rfl

theorem exec_rxb_of_not_writer {i : Instr} {s t : State} (h : exec i s = .next t) (notClr : i ≠ .vclr)
    (notPush : ∀ b, i ≠ .vpush b) : t.rxb = s.rxb := by
  rcases exec_cases h with ⟨_, -, -, rfl⟩ | ⟨_, -, -, rfl⟩ | ⟨clr, -⟩ | ⟨b, push, -, -⟩ | ⟨_, -, -, rfl⟩ |
    ⟨_, -, rfl⟩ | ⟨_, rfl, -⟩
  · rfl
  · rfl
  · exact absurd clr notClr
  · exact absurd push (notPush b)
  · rfl
  · rfl
  · rfl

/-- An operation but VCLR appends what it pushes, and what does not fit within nine bytes is dropped and sets
RX_OVERRUN. -/
theorem exec_appends_pushed {i : Instr} {s t : State} (hs : s.rxn ≤ 9) (notClr : i ≠ .vclr)
    (h : exec i s = .next t) :
    t.rxb = (s.rxb ++ pushed i).take 9 ∧ (9 < (s.rxb ++ pushed i).length → t.flt.getLsbD 1 = true) := by
  rw [rxn_eq] at hs
  by_cases push : ∃ b, i = .vpush b
  · obtain ⟨b, rfl⟩ := push
    by_cases full : s.rxn = 9
    · rw [exec_vpush_full b full] at h; cases h
      exact ⟨(List.take_left' full).symm, fun _ => by simp [Usage.mask]⟩
    · rw [exec_vpush_room b full] at h; cases h
      have fits : (s.rxb ++ [b]).length ≤ 9 := pushByte_length_le b hs full
      exact ⟨(List.take_of_length_le fits).symm, fun tooMany => absurd fits (Nat.not_le.2 tooMany)⟩
  · have notPush : ∀ b, i ≠ .vpush b := fun b hb => push ⟨b, hb⟩
    rw [pushed_eq_nil notPush, List.append_nil, exec_rxb_of_not_writer h notClr notPush]
    exact ⟨(List.take_of_length_le hs).symm, fun tooMany => absurd hs (Nat.not_le.2 tooMany)⟩

theorem exec_flt_bit_sticky {i : Instr} {s t : State} {k : Nat} (h : exec i s = .next t)
    (set : s.flt.getLsbD k = true) : t.flt.getLsbD k = true := by
  rw [← exec_flt_sticky h, BitVec.getLsbD_and, Bool.and_eq_true] at set
  exact set.2

theorem execAll_flt_bit_sticky {is : List Instr} {s t : State} {k : Nat} (h : execAll is s = .next t)
    (set : s.flt.getLsbD k = true) : t.flt.getLsbD k = true := by
  induction is generalizing s with
  | nil => cases h; exact set
  | cons i is ih =>
    obtain ⟨u, hu⟩ := exec_next i s
    rw [execAll_cons hu] at h
    exact ih h (exec_flt_bit_sticky hu set)

/-- Operations but VCLR append what they push, one after the other, and drop what does not fit within nine bytes. -/
theorem execAll_appends_pushed {is : List Instr} {s t : State} (hs : s.rxn ≤ 9) (notClr : ∀ i ∈ is, i ≠ .vclr)
    (h : execAll is s = .next t) :
    t.rxb = (s.rxb ++ is.flatMap pushed).take 9 ∧
      (9 < (s.rxb ++ is.flatMap pushed).length → t.flt.getLsbD 1 = true) := by
  induction is generalizing s with
  | nil =>
    cases h
    rw [rxn_eq] at hs
    simp [List.take_of_length_le hs, hs]
  | cons i is ih =>
    obtain ⟨u, hu⟩ := exec_next i s
    rw [execAll_cons hu] at h
    obtain ⟨first, firstOver⟩ := exec_appends_pushed hs (notClr i List.mem_cons_self) hu
    obtain ⟨rest, restOver⟩ := ih (exec_rxn_le hs hu) (fun j hj => notClr j (List.mem_cons_of_mem i hj)) h
    rw [List.flatMap_cons, ← List.append_assoc]
    by_cases tooMany : 9 < (s.rxb ++ pushed i).length
    · refine ⟨?_, fun _ => execAll_flt_bit_sticky h (firstOver tooMany)⟩
      have full : ((s.rxb ++ pushed i).take 9).length = 9 := List.length_take_of_le tooMany.le
      rw [rest, first, List.take_left' full, List.take_append_of_le_length tooMany.le]
    · rw [List.take_of_length_le (Nat.not_lt.1 tooMany)] at first
      rw [← first]
      exact ⟨rest, restOver⟩

/-- Settles O48: VCLR leaves the buffer empty, and from there the pushes are appended. -/
theorem bufferHoldsTheFirstNineBytesPushed : Obligations.BufferHoldsTheFirstNineBytesPushed := by
  intro s is allowed
  obtain ⟨t, ht⟩ := execAll_next is (clearValidator s)
  have empty : (clearValidator s).rxn ≤ 9 := Nat.zero_le 9
  have held := execAll_appends_pushed empty (fun i hi => (allowed i hi).1) ht
  rw [clearValidator_rxb, List.nil_append] at held
  exact ⟨t, (execAll_cons (exec_vclr s)).trans ht, held⟩

end Sys2Proof.Machine
end

section
/-! Reads change no register but `FLT[3]` (20_memory.md R52). -/

namespace Sys2Proof.Machine

/-- A read returns a value or raises NO_RESULT, and does nothing else. -/
theorem exec_read_cases {i : Instr} {s t : State} (wf : i.wellFormed = true) (read : isRead i = true)
    (h : exec i s = .next t) : (∃ v, t = respond v s) ∨ t = raiseUsage .noResult s := by
  cases i with
  | c5read => cases h; exact .inl ⟨_, rfl⟩
  | c16read => cases h; exact .inl ⟨_, rfl⟩
  | vread sel =>
    rcases exec_vread_cases sel s with ⟨v, hv⟩ | ⟨u, rfl | ⟨rfl, rfl⟩, hv⟩
    · rw [hv] at h; cases h; exact .inl ⟨v, rfl⟩
    · rw [hv] at h; cases h; exact .inr rfl
    · cases wf
  | _ => cases read

/-- A read that returned a value returns it again, since it left its own unit and `FLT` as they were. -/
theorem exec_read_again {i : Instr} {s : State} {v : Word32} (h : exec i s = .next (respond v s)) :
    ∃ u, exec i (respond v s) = .next u ∧ u.resp = some v := by
  obtain ⟨u, hu, -, resp⟩ := exec_sameThrough (agreeOn_respond (unitOf i) v s) (fun _ => rfl) h
  exact ⟨u, hu, resp⟩

/-- Settles O56: a read that returns a value repeats it; one that raises NO_RESULT sets `FLT[3]` and returns nothing. -/
theorem readsChangeNothing : Obligations.ReadsChangeNothing := by
  intro i s wf read
  obtain ⟨t, ht⟩ := exec_next i s
  rcases exec_read_cases wf read ht with ⟨v, rfl⟩ | rfl
  · obtain ⟨u, hu, resp⟩ := exec_read_again ht
    exact ⟨_, u, ht, hu, rfl, rfl, rfl, rfl, rfl, .inl rfl, fun _ => resp⟩
  · obtain ⟨u, hu⟩ := exec_next i (raiseUsage .noResult s)
    exact ⟨_, u, ht, hu, rfl, rfl, rfl, rfl, rfl, .inr ⟨rfl, rfl⟩, fun returned => nomatch returned⟩

end Sys2Proof.Machine
end

section
/-! The operation map (30_encoding.md R61, R63, R64): what the decoder does with each operation code, that it and
`encode` undo each other, and which words it rejects. -/

namespace Sys2Proof

open Sys2Proof.Machine

/-- Settles O1, by cases on the operation. -/
theorem decodeOfEncodeGivesTheInstruction : Obligations.DecodeOfEncodeGivesTheInstruction :=
  fun _ wf => decode_encode wf

/-- What the decoder does, by operation code: the argument must be zero, one bit, any byte or a selector, and the other
codes are reserved. -/
theorem decode_cases (w : Command) :
    ((w.op = 0x1 ∨ w.op = 0x4 ∨ w.op = 0x5 ∨ w.op = 0x8 ∨ w.op = 0x9 ∨ w.op = 0xB) ∧
      ∃ i : Instr, (i.wellFormed = true ∧ i.op = w.op ∧ i.arg = 0) ∧ decode w = decodeNoArg w.arg i) ∨
    ((w.op = 0x2 ∨ w.op = 0x6) ∧
      ∃ mk : Bool → Instr, (∀ d, (mk d).wellFormed = true ∧ (mk d).op = w.op ∧ (mk d).arg = if d then 1 else 0) ∧
        decode w = decodeBitArg w.arg mk) ∨
    ((w.op = 0x3 ∨ w.op = 0x7 ∨ w.op = 0xA) ∧
      ∃ mk : Byte → Instr, (∀ b, (mk b).wellFormed = true ∧ (mk b).op = w.op ∧ (mk b).arg = b) ∧
        decode w = .ok (mk w.arg)) ∨
    (w.op = 0xC ∧ decode w = decodeSelector w.arg) ∨
    ((w.op = 0x0 ∨ w.op = 0xD ∨ w.op = 0xE ∨ w.op = 0xF) ∧ decode w = .error .reservedOp) := by
  unfold decode
  generalize w.op = o
  match o with
  | 0x1 => exact .inl ⟨by decide, .c5init, ⟨rfl, rfl, rfl⟩, rfl⟩
  | 0x4 => exact .inl ⟨by decide, .c5read, ⟨rfl, rfl, rfl⟩, rfl⟩
  | 0x5 => exact .inl ⟨by decide, .c16init, ⟨rfl, rfl, rfl⟩, rfl⟩
  | 0x8 => exact .inl ⟨by decide, .c16read, ⟨rfl, rfl, rfl⟩, rfl⟩
  | 0x9 => exact .inl ⟨by decide, .vclr, ⟨rfl, rfl, rfl⟩, rfl⟩
  | 0xB => exact .inl ⟨by decide, .vcheck, ⟨rfl, rfl, rfl⟩, rfl⟩
  | 0x2 => exact .inr (.inl ⟨by decide, .c5bit, fun _ => ⟨rfl, rfl, rfl⟩, rfl⟩)
  | 0x6 => exact .inr (.inl ⟨by decide, .c16bit, fun _ => ⟨rfl, rfl, rfl⟩, rfl⟩)
  | 0x3 => exact .inr (.inr (.inl ⟨by decide, .c5byte, fun _ => ⟨rfl, rfl, rfl⟩, rfl⟩))
  | 0x7 => exact .inr (.inr (.inl ⟨by decide, .c16byte, fun _ => ⟨rfl, rfl, rfl⟩, rfl⟩))
  | 0xA => exact .inr (.inr (.inl ⟨by decide, .vpush, fun _ => ⟨rfl, rfl, rfl⟩, rfl⟩))
  | 0xC => exact .inr (.inr (.inr (.inl ⟨rfl, rfl⟩)))
  | 0x0 | 0xD | 0xE | 0xF => exact .inr (.inr (.inr (.inr ⟨by decide, rfl⟩)))
  | ⟨n + 16, h⟩ => omega

theorem ofCode_wellFormed (c : BitVec 3) : (Selector.ofCode c).wellFormed = true ↔ c ≠ 7 := by
  revert c; decide

theorem decodeSelector_ok {a : Byte} {j : Instr} :
    decodeSelector a = .ok j ↔
      a >>> 3 = 0 ∧ a.extractLsb' 0 3 ≠ 7 ∧ j = .vread (Selector.ofCode (a.extractLsb' 0 3)) := by
  rw [← ofCode_wellFormed, decodeSelector]
  by_cases narrow : a >>> 3 = 0
  · cases hsel : Selector.ofCode (a.extractLsb' 0 3) <;> simp [narrow, Selector.wellFormed, eq_comm]
  · rw [if_neg narrow]
    exact ⟨nofun, fun h => absurd h.1 narrow⟩

/-! Arguments of one bit and of three: the bits above them are zero exactly when the operand alone is the argument. -/

theorem bit_arg {a : Byte} : a >>> 1 = 0 → (if a.getLsbD 0 then 1 else 0) = a := by
  revert a; decide

theorem selector_arg {a : Byte} : a >>> 3 = 0 → (a.extractLsb' 0 3).setWidth 8 = a := by
  revert a; decide

theorem shift_one_eq_zero {a : Byte} : a >>> 1 = 0 ↔ a.extractLsb' 1 7 = 0 := by
  revert a; decide

theorem shift_three_eq_zero {a : Byte} : a >>> 3 = 0 ↔ a.extractLsb' 3 5 = 0 := by
  revert a; decide

/-- An operation with both fields of a word is encoded as that word (R60). -/
theorem encode_eq_of_fields {i : Instr} {w : Command} (hop : i.op = w.op) (harg : i.arg = w.arg) : encode i = w := by
  rw [encode, hop, harg, word_of_op_arg]

/-- Settles O2: whatever the decoder accepts has the operation code and the argument of the word. -/
theorem encodeOfDecodeGivesTheWord : Obligations.EncodeOfDecodeGivesTheWord := by
  intro w i h
  rcases decode_cases w with ⟨-, j, ⟨wf, op, arg⟩, hd⟩ | ⟨-, mk, hmk, hd⟩ | ⟨-, mk, hmk, hd⟩ | ⟨op, hd⟩ | ⟨-, hd⟩ <;>
    rw [hd] at h
  · obtain ⟨zero, rfl⟩ := decodeNoArg_ok.1 h
    exact ⟨wf, encode_eq_of_fields op (arg.trans zero.symm)⟩
  · obtain ⟨narrow, rfl⟩ := decodeBitArg_ok.1 h
    obtain ⟨wf, op, arg⟩ := hmk (w.arg.getLsbD 0)
    exact ⟨wf, encode_eq_of_fields op (arg.trans (bit_arg narrow))⟩
  · cases h
    obtain ⟨wf, op, arg⟩ := hmk w.arg
    exact ⟨wf, encode_eq_of_fields op arg⟩
  · obtain ⟨narrow, legal, rfl⟩ := decodeSelector_ok.1 h
    have arg : (Selector.ofCode (w.arg.extractLsb' 0 3)).code.setWidth 8 = w.arg := by
      rw [code_ofCode, selector_arg narrow]
    exact ⟨(ofCode_wellFormed _).2 legal, encode_eq_of_fields op.symm arg⟩
  · cases h

/-- The words that are no operation, by the clauses of R64. -/
theorem not_decode_ok_iff (w : Command) : (¬ ∃ i, decode w = .ok i) ↔
    (w.op = 0x0 ∨ w.op = 0xD ∨ w.op = 0xE ∨ w.op = 0xF) ∨
    ((w.op = 0x1 ∨ w.op = 0x4 ∨ w.op = 0x5 ∨ w.op = 0x8 ∨ w.op = 0x9 ∨ w.op = 0xB) ∧ w.arg ≠ 0) ∨
    ((w.op = 0x2 ∨ w.op = 0x6) ∧ w.arg.extractLsb' 1 7 ≠ 0) ∨
    (w.op = 0xC ∧ (w.arg.extractLsb' 3 5 ≠ 0 ∨ w.arg.extractLsb' 0 3 = 7)) := by
  simp only [ne_eq, ← shift_one_eq_zero, ← shift_three_eq_zero]
  rcases decode_cases w with ⟨ops, j, -, hd⟩ | ⟨ops, mk, -, hd⟩ | ⟨ops, mk, -, hd⟩ | ⟨op, hd⟩ | ⟨ops, hd⟩
  · rcases ops with h | h | h | h | h | h <;> simp [hd, decodeNoArg_ok, h]
  · rcases ops with h | h <;> simp [hd, decodeBitArg_ok, h]
  · rcases ops with h | h | h <;> simp [hd, h]
  · simp [hd, decodeSelector_ok, op, imp_iff_not_or]
  · rcases ops with h | h | h | h <;> simp [hd, h]

theorem raisesIllegalOp {w : Command} (illegal : ¬ ∃ i, decode w = .ok i) : RaisesIllegalOp w := by
  intro s q hp
  cases hd : decode w with
  | ok i => exact absurd ⟨i, hd⟩ illegal
  | error e => exact (step_command hp).trans (issue_illegal hd _)

/-- How many of the 256 arguments make a legal word with an operation code. -/
def legalArgs (op : Nat) : Nat := (List.range 256).countP fun arg => (decode (BitVec.ofNat 12 (256 * op + arg))).isOk

/-- One for an operation without operand, two for a bit, all for a byte, seven selectors. -/
theorem legalArgs_by_op :
    (List.range 16).map legalArgs = [0, 1, 2, 256, 1, 1, 2, 256, 1, 1, 256, 1, 7, 0, 0, 0] := by
  decide +kernel

/-- Counting block by block. -/
theorem countP_range_mul (p : Nat → Bool) (m k : Nat) :
    (List.range (m * k)).countP p = ((List.range k).map fun j => (List.range m).countP fun a => p (m * j + a)).sum := by
  induction k with
  | zero => rfl
  | succ k ih =>
    rw [Nat.mul_succ, List.range_add, List.countP_append, ih, List.countP_map, List.range_succ]
    simp [Function.comp_def]

/-- Settles O3: the words are counted by operation code. -/
theorem illegalWordsRaiseIllegalOp : Obligations.IllegalWordsRaiseIllegalOp := by
  refine ⟨not_decode_ok_iff, fun _ => raisesIllegalOp, ?_⟩
  calc (List.range (256 * 16)).countP (fun n => (decode (BitVec.ofNat 12 n)).isOk)
    _ = ((List.range 16).map legalArgs).sum := countP_range_mul _ 256 16
    _ = 785 := by rw [legalArgs_by_op]; rfl

/-- Settles O4: each word is the word of its operation. -/
theorem writtenWordsDecode : Obligations.WrittenWordsDecode :=
  ⟨decode_encode (i := .c5init) rfl, decode_encode (i := .c5bit true) rfl, decode_encode (i := .c5byte 0x52) rfl,
    decode_encode (i := .c16byte 0xA5) rfl, decode_encode (i := .vpush 0x00) rfl, decode_encode (i := .vcheck) rfl,
    decode_encode (i := .vread .payload) rfl⟩

end Sys2Proof
end

section
/-! The assembler reads the text it writes (30_encoding.md R76): a line of a mnemonic and at most one operand is cut into
the two again, and each operand is read as the value it was written for. -/

namespace Sys2Proof.Machine

/-! ### Cutting a line into mnemonic and operand -/

/-- A character that neither separates nor ends the parts of a line. -/
def isWordChar (c : Char) : Bool := !isBlank c && c != ';' && c != ','

/-- A nonempty text of such characters, as a mnemonic and an operand are. -/
def isWord (x : Text) : Bool := x != [] && x.all isWordChar

/-- What stands after a mnemonic: nothing, or a blank and the operand. -/
def afterMnemonic : Option Text → Text
  | none => []
  | some x => ' ' :: x

theorem isWord_iff {x : Text} :
    isWord x = true ↔ x ≠ [] ∧ (∀ c ∈ x, isBlank c = false) ∧ (∀ c ∈ x, (c != ';') = true) ∧ ∀ c ∈ x, c ≠ ',' := by
  simp [isWord, isWordChar, and_assoc, forall_and]

theorem isWord_reverse {x : Text} (hx : isWord x = true) : isWord x.reverse = true := by
  simpa [isWord] using hx

theorem dropBlanks_word {x : Text} (hx : isWord x = true) (rest : Text) :
    (x ++ rest).dropWhile isBlank = x ++ rest := by
  obtain ⟨nonempty, notBlank, -⟩ := isWord_iff.1 hx
  cases x with
  | nil => exact absurd rfl nonempty
  | cons c cs => exact List.dropWhile_cons_of_neg (by simp [notBlank])

/-- A text that begins with a word and ends with one has no blanks at its ends. -/
theorem trim_eq_self {x y line rest : Text} (hx : isWord x = true) (hy : isWord y = true) (begins : line = x ++ rest)
    {start : Text} (ends : line = start ++ y) : trim line = line := by
  rw [trim, begins, dropBlanks_word hx, ← begins, ends, List.reverse_append, dropBlanks_word (isWord_reverse hy),
    ← List.reverse_append, List.reverse_reverse]

theorem trim_word {x : Text} (hx : isWord x = true) : trim x = x :=
  trim_eq_self hx hx (List.append_nil x).symm (List.nil_append x).symm

theorem trim_blank_cons (x : Text) : trim (' ' :: x) = trim x := rfl

theorem splitCommas_of_no_comma {x : Text} (hx : ∀ c ∈ x, c ≠ ',') : splitCommas x = [x] := by
  induction x with
  | nil => rfl
  | cons c cs ih =>
    obtain ⟨notComma, rest⟩ := List.forall_mem_cons.1 hx
    rw [splitCommas, ih rest]
    exact if_neg notComma

section
variable {m : Text} {operand : Option Text} (hm : isWord m = true) (hx : ∀ x ∈ operand, isWord x = true)
include hm hx

theorem trim_line : trim (m ++ afterMnemonic operand) = m ++ afterMnemonic operand := by
  cases operand with
  | none => rw [afterMnemonic, List.append_nil, trim_word hm]
  | some x =>
    have ends : m ++ afterMnemonic (some x) = (m ++ [' ']) ++ x := by simp [afterMnemonic]
    exact trim_eq_self hm (hx x rfl) rfl ends

theorem line_has_no_semicolon : ∀ c ∈ m ++ afterMnemonic operand, (c != ';') = true := by
  obtain ⟨-, -, mnemonic, -⟩ := isWord_iff.1 hm
  refine List.forall_mem_append.2 ⟨mnemonic, ?_⟩
  cases operand with
  | none => exact List.forall_mem_nil _
  | some x =>
    obtain ⟨-, -, chars, -⟩ := isWord_iff.1 (hx x rfl)
    exact List.forall_mem_cons.2 ⟨rfl, chars⟩

end

/-- The first blank of a line ends its mnemonic. -/
theorem mnemonic_of_line {m : Text} (hm : isWord m = true) (operand : Option Text) :
    (m ++ afterMnemonic operand).takeWhile (fun c => !isBlank c) = m ∧
      (m ++ afterMnemonic operand).dropWhile (fun c => !isBlank c) = afterMnemonic operand := by
  obtain ⟨-, notBlank, -⟩ := isWord_iff.1 hm
  have chars : ∀ c ∈ m, (!isBlank c) = true := by simpa using notBlank
  rw [List.takeWhile_append_of_pos chars, List.dropWhile_append_of_pos chars]
  cases operand with
  | none => exact ⟨List.append_nil m, rfl⟩
  | some x => exact ⟨List.append_nil m, rfl⟩

theorem operands_afterMnemonic {operand : Option Text} (hx : ∀ x ∈ operand, isWord x = true) :
    operands (afterMnemonic operand) = operand.toList := by
  cases operand with
  | none => rfl
  | some x =>
    obtain ⟨nonempty, -, -, noComma⟩ := isWord_iff.1 (hx x rfl)
    have trimmed : trim (' ' :: x) = x := (trim_blank_cons x).trans (trim_word (hx x rfl))
    have blankToo : ∀ c ∈ ' ' :: x, c ≠ ',' := List.forall_mem_cons.2 ⟨by decide, noComma⟩
    rw [afterMnemonic, operands, trimmed, if_neg nonempty, splitCommas_of_no_comma blankToo, List.map_singleton, trimmed,
      Option.toList]

/-- A comment does not change how a line is read. -/
theorem parseLine_comment {x : Text} (hx : ∀ c ∈ x, (c != ';') = true) (comment : Text) :
    parseLine (x ++ ';' :: comment) = parseLine x := by
  have cut : (x ++ ';' :: comment).takeWhile (· != ';') = x := by simp [List.takeWhile_append_of_pos hx]
  have kept : x.takeWhile (· != ';') = x := List.takeWhile_eq_self_iff.2 hx
  rw [parseLine, parseLine, cut, kept]

/-- A line of a mnemonic and its operand is read as what `parseOperation` makes of the two. -/
theorem parseLine_mnemonic_operand {m : Text} {operand : Option Text} {i : Instr} (hm : isWord m = true)
    (hx : ∀ x ∈ operand, isWord x = true) (h : parseOperation m operand.toList = some i) :
    parseLine (m ++ afterMnemonic operand) = some (.operation i) := by
  have kept : (m ++ afterMnemonic operand).takeWhile (· != ';') = m ++ afterMnemonic operand :=
    List.takeWhile_eq_self_iff.2 (line_has_no_semicolon hm hx)
  have nonempty : m ++ afterMnemonic operand ≠ [] := List.append_ne_nil_of_left_ne_nil (isWord_iff.1 hm).1 _
  obtain ⟨mnemonic, rest⟩ := mnemonic_of_line hm operand
  simp only [parseLine, kept, trim_line hm hx, mnemonic, rest, operands_afterMnemonic hx, h, if_neg nonempty]

/-! ### The operands of the operations -/

/-- The operand of an operation as its line writes it. -/
def operandText : Instr → Option Text
  | .c5bit d | .c16bit d => some [if d then '1' else '0']
  | .c5byte b | .c16byte b | .vpush b => some (byteText b)
  | .vread sel => some (selectorText sel)
  | .c5init | .c5read | .c16init | .c16read | .vclr | .vcheck => none

theorem text_eq (i : Instr) : Instr.text i = Instr.mnemonic i ++ afterMnemonic (operandText i) := by
  cases i <;> simp [Instr.text, operandText, afterMnemonic]

theorem mnemonic_isWord (i : Instr) : isWord (Instr.mnemonic i) = true := by
  cases i <;> rfl

theorem hexDigit_hexDigits {n : Nat} (hn : n < 16) : hexDigit (hexDigits.getD n '0') = some n := by
  revert n; decide

theorem hexDigits_isWordChar {n : Nat} (hn : n < 16) : isWordChar (hexDigits.getD n '0') = true := by
  revert n; decide

theorem parseByte_hex {h l : Char} {m n : Nat} (hh : hexDigit h = some m) (hl : hexDigit l = some n) :
    parseByte ['0', 'x', h, l] = some (BitVec.ofNat 8 (16 * m + n)) := by
  simp [parseByte, digits, hh, hl]

theorem parseByte_byteText (b : Byte) : parseByte (byteText b) = some b := by
  have high : b.toNat / 16 < 16 := by omega
  have low : b.toNat % 16 < 16 := by omega
  rw [byteText, parseByte_hex (hexDigit_hexDigits high) (hexDigit_hexDigits low), Nat.div_add_mod, BitVec.ofNat_toNat,
    BitVec.setWidth_eq]

theorem byteText_isWord (b : Byte) : isWord (byteText b) = true := by
  have high : b.toNat / 16 < 16 := by omega
  have low : b.toNat % 16 < 16 := by omega
  rw [isWord, byteText, List.all_cons, List.all_cons, List.all_cons, List.all_cons, hexDigits_isWordChar high,
    hexDigits_isWordChar low]
  rfl

theorem operandText_isWord (i : Instr) : ∀ x ∈ operandText i, isWord x = true := by
  cases i with
  | c5bit d | c16bit d => rintro _ ⟨⟩; cases d <;> decide
  | c5byte b | c16byte b | vpush b => rintro _ ⟨⟩; exact byteText_isWord b
  | vread sel => rintro _ ⟨⟩; cases sel <;> decide
  | _ => exact nofun

theorem parseOperation_operandText {i : Instr} (wf : i.wellFormed = true) :
    parseOperation (Instr.mnemonic i) (operandText i).toList = some i := by
  cases i with
  | c5bit d | c16bit d => cases d <;> rfl
  | c5byte b | c16byte b | vpush b => exact congrArg (Option.map _) (parseByte_byteText b)
  | vread sel =>
    cases sel with
    | reserved => cases wf
    | _ => rfl
  | _ => rfl

/-- Settles O5: the text is the mnemonic and the operand, both words, and the operand is read as what it was written
for. -/
theorem assemblerReadsWhatItWrites : Obligations.AssemblerReadsWhatItWrites := by
  intro i wf
  have line : parseLine (Instr.text i) = some (.operation i) := by
    rw [text_eq]
    exact parseLine_mnemonic_operand (mnemonic_isWord i) (operandText_isWord i) (parseOperation_operandText wf)
  have noSemicolon : ∀ c ∈ Instr.text i, (c != ';') = true := by
    rw [text_eq]
    exact line_has_no_semicolon (mnemonic_isWord i) (operandText_isWord i)
  exact ⟨line, fun comment => (parseLine_comment noSemicolon comment).trans line⟩

end Sys2Proof.Machine
end

section
/-! The expansions of the pseudo-operations, operation by operation (30_encoding.md R77). -/

namespace Sys2Proof.Machine

/-- The run over the words of a list of operations is the list executed (R50). -/
theorem run_offerAll {is : List Instr} {n : Nat} (hn : is.length = n) (wf : ∀ i ∈ is, i.wellFormed = true) (s : State) :
    run n (offerAll is s) = execAll is s :=
  hn ▸ runExecutesInIssueOrder is s wf

theorem execAll_c5bytes (c : BitVec 5) (bytes : List Byte) (s : State) :
    execAll (bytes.map .c5byte) (setC5 c s) = .next (setC5 (bytes.foldl crc5byte c) s) := by
  induction bytes generalizing c with
  | nil => rfl
  | cons b bytes ih => exact (execAll_cons (exec_c5byte b _)).trans (ih (crc5byte c b))

theorem execAll_crc5Sequence (bytes : List Byte) (s : State) :
    execAll (crc5Sequence bytes) s = .next (respond (zext32 (crc5 bytes)) (setC5 (crc5 bytes) s)) := by
  have fed : execAll (.c5init :: bytes.map .c5byte) s = .next (setC5 (crc5 bytes) s) :=
    (execAll_cons (exec_c5init s)).trans (execAll_c5bytes _ bytes s)
  exact (execAll_append fed).trans (execAll_cons (exec_c5read _))

theorem execAll_c16bytes (c : BitVec 16) (bytes : List Byte) (s : State) :
    execAll (bytes.map .c16byte) (setC16 c s) = .next (setC16 (bytes.foldl (crc16byte Config.crc16Params) c) s) := by
  induction bytes generalizing c with
  | nil => rfl
  | cons b bytes ih => exact (execAll_cons (exec_c16byte b _)).trans (ih (crc16byte Config.crc16Params c b))

theorem execAll_crc16Sequence (bytes : List Byte) (s : State) :
    execAll (crc16Sequence bytes) s = .next
      (respond (zext32 (crc16 Config.crc16Params bytes)) (setC16 (crc16acc Config.crc16Params bytes) s)) := by
  have fed : execAll (.c16init :: bytes.map .c16byte) s = .next (setC16 (crc16acc Config.crc16Params bytes) s) :=
    (execAll_cons (exec_c16init s)).trans (execAll_c16bytes _ bytes s)
  exact (execAll_append fed).trans (execAll_cons (exec_c16read _))

/-- Bytes that fit are all pushed. -/
theorem execAll_vpushes {bytes : List Byte} {s : State} (fits : (s.rxb ++ bytes).length ≤ 9) (quiet : s.resp = none) :
    execAll (bytes.map .vpush) s = .next { s with rxb := s.rxb ++ bytes } := by
  induction bytes generalizing s with
  | nil => simp
  | cons b bytes ih =>
    have room : s.rxn ≠ 9 := by simp [rxn_eq] at fits ⊢; omega
    rw [List.map_cons, execAll_cons (exec_vpush_room b room), ih (by simpa using fits) rfl]
    simp [pushByte, quiet]

/-- PARSE leaves the frame in the buffer and the outcome of `validate` in the result registers, and returns the
verdict. -/
theorem execAll_parse (f : Frame) (s : State) :
    execAll (Pseudo.parse f).expand s = .next
      (respond (zext32 (validate Config.regAddrSet f).vst.code)
        (latch (validate Config.regAddrSet f) { clearValidator s with rxb := f.toList })) := by
  have held : execAll (.vclr :: f.toList.map .vpush) s = .next { clearValidator s with rxb := f.toList } :=
    (execAll_cons (exec_vclr s)).trans (execAll_vpushes (by simp) rfl)
  rw [Pseudo.expand, execAll_append held, execAll_cons (exec_vcheck_full rfl)]
  exact execAll_cons (exec_vread_status _)

theorem crc5Sequence_length (bytes : List Byte) : (crc5Sequence bytes).length = bytes.length + 2 := by
  simp [crc5Sequence]

theorem crc16Sequence_length (bytes : List Byte) : (crc16Sequence bytes).length = bytes.length + 2 := by
  simp [crc16Sequence]

theorem crc5Sequence_wellFormed (bytes : List Byte) : ∀ i ∈ crc5Sequence bytes, i.wellFormed = true := by
  refine List.forall_mem_append.2 ⟨List.forall_mem_cons.2 ⟨rfl, List.forall_mem_map.2 fun _ _ => rfl⟩, ?_⟩
  exact List.forall_mem_singleton.2 rfl

theorem crc16Sequence_wellFormed (bytes : List Byte) : ∀ i ∈ crc16Sequence bytes, i.wellFormed = true := by
  refine List.forall_mem_append.2 ⟨List.forall_mem_cons.2 ⟨rfl, List.forall_mem_map.2 fun _ _ => rfl⟩, ?_⟩
  exact List.forall_mem_singleton.2 rfl

theorem parse_wellFormed (f : Frame) : ∀ i ∈ (Pseudo.parse f).expand, i.wellFormed = true := by
  simp [Pseudo.expand, Frame.toList, Instr.wellFormed, Selector.wellFormed]

/-- Settles O28: the run is the expansion executed. -/
theorem pseudoOperationsRespond : Obligations.PseudoOperationsRespond := by
  refine ⟨fun s bytes => ⟨_, Eq.trans ?_ (execAll_crc5Sequence bytes s), rfl⟩,
    fun s bytes => ⟨_, Eq.trans ?_ (execAll_crc16Sequence bytes s), rfl⟩,
    fun s f => ⟨_, Eq.trans ?_ (execAll_parse f s), rfl⟩⟩
  · exact run_offerAll (crc5Sequence_length bytes) (crc5Sequence_wellFormed bytes) s
  · exact run_offerAll (crc16Sequence_length bytes) (crc16Sequence_wellFormed bytes) s
  · exact run_offerAll rfl (parse_wellFormed f) s

end Sys2Proof.Machine
end

section
/-! Which steps return a value (30_encoding.md R62). -/

namespace Sys2Proof.Machine

/-- `t` is `s` after a read that raises `fault`, or that returns a value when there is none. -/
def AfterRead (fault : Option Usage) (s t : State) : Prop :=
  match fault with
  | none => ∃ v, t = respond v s
  | some u => t = raiseUsage u s

theorem AfterRead.resp_isSome_iff {fault : Option Usage} {s t : State} (h : AfterRead fault s t) :
    t.resp.isSome = true ↔ fault = none := by
  cases fault with
  | none => obtain ⟨v, rfl⟩ := h; simp
  | some u => obtain rfl : t = raiseUsage u s := h; simp

/-- A result register that holds a value under the verdicts that carry it, and under no other, is returned under them
and is NO_RESULT under the others. -/
theorem afterRead_readResult {n : Nat} {carried : Bool} {r : Option (BitVec n)} (held : r.isSome = carried)
    (s : State) : AfterRead (if carried then none else some .noResult) s (readResult carried r s) := by
  cases r <;> cases held
  · exact rfl
  · exact ⟨_, rfl⟩

/-- In a state a run can reach a read raises the usage fault `usageOf` names, or returns a value when it names none. -/
theorem exec_afterRead {i : Instr} {s : State} (hs : s.Consistent) (read : isRead i = true) :
    ∃ t, exec i s = .next t ∧ AfterRead (usageOf i s) s t := by
  obtain ⟨hpay, hb6, hb7, htrl⟩ : s.vpay.isSome = s.vst.carriesPayload ∧ s.vb6.isSome = s.vst.carriesPayload ∧
    s.vb7.isSome = s.vst.carriesAddress ∧ s.vtrl.isSome = s.vst.carriesAddress := hs.followsTable
  cases i with
  | c5read => exact ⟨_, rfl, _, rfl⟩
  | c16read => exact ⟨_, rfl, _, rfl⟩
  | vread sel =>
    cases sel with
    | status | count | faults => exact ⟨_, rfl, _, rfl⟩
    | reserved => exact ⟨_, rfl, rfl⟩
    | payload => exact ⟨_, rfl, by simpa only [usageOf, carriesPayload_iff] using afterRead_readResult hpay s⟩
    | b6 => exact ⟨_, rfl, by simpa only [usageOf, carriesPayload_iff] using afterRead_readResult hb6 s⟩
    | b7 => exact ⟨_, rfl, by simpa only [usageOf, carriesAddress_iff] using afterRead_readResult hb7 s⟩
    | trailer => exact ⟨_, rfl, by simpa only [usageOf, carriesAddress_iff] using afterRead_readResult htrl s⟩
  | _ => cases read

theorem exec_resp_of_not_read {i : Instr} {s t : State} (notRead : isRead i = false) (h : exec i s = .next t) :
    t.resp = none := by
  rcases exec_cases h with ⟨_, -, -, rfl⟩ | ⟨_, -, -, rfl⟩ | ⟨-, rfl⟩ | ⟨_, -, -, rfl⟩ | ⟨_, -, -, rfl⟩ |
    ⟨_, read, -⟩ | ⟨_, rfl, -⟩
  · rfl
  · rfl
  · rfl
  · rfl
  · rfl
  · cases read.symm.trans notRead
  · rfl

/-- Settles O55: of the operations the reads alone can return a value, and of the other steps the wait and the reset
event are left. -/
theorem onlyReadsThatDoNotFaultRespond : Obligations.OnlyReadsThatDoNotFaultRespond := by
  refine ⟨fun i s _ hs => ?_, fun s t noCommand h => ?_⟩
  · cases read : isRead i with
    | true =>
      obtain ⟨t, ht, after⟩ := exec_afterRead hs read
      exact ⟨t, ht, by simp [after.resp_isSome_iff]⟩
    | false =>
      obtain ⟨t, ht⟩ := exec_next i s
      exact ⟨t, ht, by simp [exec_resp_of_not_read read ht]⟩
  · rcases step_cases h with ⟨-, rfl⟩ | ⟨_, -, rfl⟩ | ⟨w, q, -, hp, -⟩ | ⟨w, q, -, hp, -⟩
    · rfl
    · rfl
    · exact absurd hp (noCommand w q)
    · exact absurd hp (noCommand w q)

end Sys2Proof.Machine
end

section
/-! The control frames (30_encoding.md R66, R67; 42_tx_framing.md R142). -/

namespace Sys2Proof.Machine

/-- A byte of a word that ends in the byte `lo`, above `lo`, is a byte of the rest. -/
theorem byte_append_above {n : Nat} (hi : BitVec n) (lo : Byte) (k : Nat) :
    (hi ++ lo).extractLsb' (k + 8) 8 = hi.extractLsb' k 8 :=
  BitVec.extractLsb'_append_eq_of_le (Nat.le_add_left 8 k)

/-- A big-endian field is laid out as the bytes it was made of (R45). -/
theorem bytesBE_be32 (b0 b1 b2 b3 : Byte) : bytesBE (be32 b0 b1 b2 b3) = [b0, b1, b2, b3] := by
  have byte3 : (be32 b0 b1 b2 b3).extractLsb' 0 8 = b3 := BitVec.extractLsb'_append_eq_right
  have byte2 : (be32 b0 b1 b2 b3).extractLsb' 8 8 = b2 :=
    (byte_append_above (b0 ++ b1 ++ b2) b3 0).trans BitVec.extractLsb'_append_eq_right
  have byte1 : (be32 b0 b1 b2 b3).extractLsb' 16 8 = b1 :=
    (byte_append_above (b0 ++ b1 ++ b2) b3 8).trans <|
      (byte_append_above (b0 ++ b1) b2 0).trans BitVec.extractLsb'_append_eq_right
  have byte0 : (be32 b0 b1 b2 b3).extractLsb' 24 8 = b0 :=
    (byte_append_above (b0 ++ b1 ++ b2) b3 16).trans <|
      (byte_append_above (b0 ++ b1) b2 8).trans BitVec.extractLsb'_append_eq_left
  rw [bytesBE, byte0, byte1, byte2, byte3]

/-- Settles O31: the frames are their fields in order, the value of a long frame in its big-endian bytes. -/
theorem controlFrameLayout : Obligations.ControlFrameLayout := by
  refine ⟨fun _ _ _ => rfl, fun opc chip reg v3 v2 v1 v0 => ?_, by decide +kernel⟩
  rw [frameLong, bytesBE_be32]
  rfl

end Sys2Proof.Machine
end

section
/-! The one-bit step of the CRC-5 (40_crc5.md R100): its bits, its inverse and its linearity, and what follows for spans
(R108, R109). -/

namespace Sys2Proof.Machine

/-- The bits after a step: the feedback bit enters at bits 0 and 2 (R100). -/
theorem crc5bit_getLsbD (c : BitVec 5) (d : Bool) :
    (crc5bit c d).getLsbD 0 = (c.getLsbD 4 ^^ d) ∧
    (crc5bit c d).getLsbD 1 = c.getLsbD 0 ∧
    (crc5bit c d).getLsbD 2 = (c.getLsbD 1 ^^ (c.getLsbD 4 ^^ d)) ∧
    (crc5bit c d).getLsbD 3 = c.getLsbD 2 ∧
    (crc5bit c d).getLsbD 4 = c.getLsbD 3 := by
  rw [crc5bit]
  cases c.getLsbD 4 ^^ d <;> simp [Config.crc5Poly]

/-- The bits before a step from those after it (R108). -/
theorem getLsbD_of_crc5bit (c : BitVec 5) (d : Bool) :
    c.getLsbD 0 = (crc5bit c d).getLsbD 1 ∧
    c.getLsbD 1 = ((crc5bit c d).getLsbD 2 ^^ (crc5bit c d).getLsbD 0) ∧
    c.getLsbD 2 = (crc5bit c d).getLsbD 3 ∧
    c.getLsbD 3 = (crc5bit c d).getLsbD 4 ∧
    c.getLsbD 4 = ((crc5bit c d).getLsbD 0 ^^ d) := by
  obtain ⟨b0, b1, b2, b3, b4⟩ := crc5bit_getLsbD c d
  refine ⟨b1.symm, ?_, b3.symm, b4.symm, ?_⟩
  · rw [b2, b0, Bool.xor_assoc, Bool.xor_self, Bool.xor_false]
  · rw [b0, Bool.xor_assoc, Bool.xor_self, Bool.xor_false]

theorem crc5bit_injective (d : Bool) : Function.Injective (crc5bit · d) := by
  intro c c' (h : crc5bit c d = crc5bit c' d)
  obtain ⟨b0, b1, b2, b3, b4⟩ := getLsbD_of_crc5bit c d
  obtain ⟨b0', b1', b2', b3', b4'⟩ := getLsbD_of_crc5bit c' d
  refine BitVec.eq_of_getLsbD_eq fun i hi => ?_
  match i with
  | 0 => rw [b0, b0', h]
  | 1 => rw [b1, b1', h]
  | 2 => rw [b2, b2', h]
  | 3 => rw [b3, b3', h]
  | 4 => rw [b4, b4', h]

theorem crc5bits_injective (ds : List Bool) : Function.Injective (crc5bits · ds) := by
  induction ds with
  | nil => exact Function.injective_id
  | cons d ds ih => exact ih.comp (crc5bit_injective d)

/-- The bits of an accumulator in the order of R108, top bit first. -/
theorem getMsbD_eq_getD (t : BitVec 5) (i : Nat) :
    t.getMsbD i = [t.getLsbD 4, t.getLsbD 3, t.getLsbD 2, t.getLsbD 1, t.getLsbD 0].getD i false := by
  match i with
  | 0 | 1 | 2 | 3 | 4 => simp [BitVec.getMsbD]
  | i + 5 => simp [BitVec.getMsbD]

/-- Settles O18: five bits bring the accumulator to zero when they are its own, and since each step can be undone the map
of a fixed tail is injective on finitely many states. -/
theorem checkBitsLeaveZero : Obligations.CheckBitsLeaveZero := by
  refine ⟨fun c t => ?_, getLsbD_of_crc5bit, fun t => (crc5bits_injective _).bijective_of_finite⟩
  rw [crc5bits_eq_zero_iff le_rfl]
  simp only [← getMsbD_eq_getD]
  exact ⟨fun h => BitVec.eq_of_getMsbD_eq fun i _ => (h i).symm, fun h i => h ▸ rfl⟩

theorem select_xor {n : Nat} (a b : Bool) (p : BitVec n) :
    (if a ^^ b then p else 0) = (if a then p else 0) ^^^ (if b then p else 0) := by
  cases a <;> cases b <;> simp

/-- R109: the shift, the feedback bit and the polynomial it selects all commute with exclusive or. -/
theorem crc5bit_xor (c c' : BitVec 5) (d d' : Bool) :
    crc5bit (c ^^^ c') (d ^^ d') = crc5bit c d ^^^ crc5bit c' d' := by
  have feedback : ((c ^^^ c').getLsbD 4 ^^ (d ^^ d')) = ((c.getLsbD 4 ^^ d) ^^ (c'.getLsbD 4 ^^ d')) := by
    simp only [BitVec.getLsbD_xor, Bool.xor_assoc, Bool.xor_left_comm]
  rw [crc5bit, feedback, BitVec.shiftLeft_xor_distrib, select_xor, crc5bit, crc5bit]
  ac_rfl

/-- Over a span the bits fed can all be put to one of the two summands. -/
theorem crc5bits_xor (c c' : BitVec 5) (ds : List Bool) :
    crc5bits (c ^^^ c') ds = crc5bits c (List.replicate ds.length false) ^^^ crc5bits c' ds := by
  induction ds generalizing c c' with
  | nil => rfl
  | cons d ds ih =>
    have split : crc5bit (c ^^^ c') d = crc5bit c false ^^^ crc5bit c' d := by
      rw [← crc5bit_xor, Bool.false_xor]
    rw [crc5bits_cons, split, ih]
    rfl

/-- Settles O19: a byte fed to `c` is eight zero bits fed to `c` and the byte's own bits fed to zero. -/
theorem crc5IsLinear : Obligations.Crc5IsLinear := by
  refine ⟨crc5bit_xor, fun c b => ?_, by decide⟩
  calc crc5byte c b
    _ = crc5bits (c ^^^ 0x00) (bitsMsbFirst b) := by rw [BitVec.ofNat_eq_ofNat, BitVec.xor_zero, crc5byte]
    _ = crc5byte c 0x00 ^^^ crc5byte 0x00 b := crc5bits_xor c 0x00 (bitsMsbFirst b)

end Sys2Proof.Machine
end

section
/-! Words with an argument that their operation does not take (30_encoding.md R64). -/

namespace Sys2Proof

open Sys2Proof.Machine

theorem raisesIllegalOp_of_arg_ne_zero {w : Command} (harg : w.arg ≠ 0)
    (hop : w.op = 0x1 ∨ w.op = 0x4 ∨ w.op = 0x5 ∨ w.op = 0x8 ∨ w.op = 0x9 ∨ w.op = 0xB) : RaisesIllegalOp w :=
  raisesIllegalOp ((not_decode_ok_iff w).2 (.inr (.inl ⟨hop, harg⟩)))

theorem raisesIllegalOp_of_wide_bit {w : Command} (harg : w.arg.extractLsb' 1 7 ≠ 0) (hop : w.op = 0x2 ∨ w.op = 0x6) :
    RaisesIllegalOp w :=
  raisesIllegalOp ((not_decode_ok_iff w).2 (.inr (.inr (.inl ⟨hop, harg⟩))))

end Sys2Proof
end

section
/-! The four operations of the CRC-5 unit (40_crc5.md R103 to R106). -/

namespace Sys2Proof.Machine

/-- Settles O13: the operation's meaning, its word, and the clause of R64 for operations without operand. -/
theorem c5InitLoadsInitialValue : Obligations.C5InitLoadsInitialValue :=
  ⟨exec_c5init, decode_encode (i := .c5init) rfl,
    fun _ hop harg => raisesIllegalOp_of_arg_ne_zero harg (.inl hop)⟩

/-- The closed form of R100: in five bits the mask 0x1F takes nothing away. -/
theorem crc5bit_eq (c : BitVec 5) (d : Bool) :
    crc5bit c d = ((c <<< 1) &&& 0x1F) ^^^ (if (c.getLsbD 4 ^^ d) = true then 0x05 else 0x00) :=
  congrArg (· ^^^ _) (BitVec.and_allOnes (x := c <<< 1)).symm

/-- Settles O14: the operation's meaning, the step bit by bit, its two words, and the clause of R64 for a bit. -/
theorem c5BitShiftsAndFeedsBack : Obligations.C5BitShiftsAndFeedsBack :=
  ⟨exec_c5bit, fun c d => ⟨crc5bit_eq c d, crc5bit_getLsbD c d⟩,
    decode_encode (i := .c5bit false) rfl, decode_encode (i := .c5bit true) rfl,
    fun _ hop harg => raisesIllegalOp_of_wide_bit harg (.inl hop), by decide, by decide⟩

theorem execAll_c5bits (c : BitVec 5) (ds : List Bool) (s : State) :
    execAll (ds.map .c5bit) (setC5 c s) = .next (setC5 (crc5bits c ds) s) := by
  induction ds generalizing c with
  | nil => rfl
  | cons d ds ih => exact (execAll_cons (exec_c5bit d _)).trans (ih (crc5bit c d))

/-- Feeding the bits of a byte one by one is feeding the byte (R105). -/
theorem execAll_bitsMsbFirst (b : Byte) (s : State) :
    execAll ((bitsMsbFirst b).map .c5bit) s = exec (.c5byte b) s :=
  (execAll_cons (exec_c5bit _ s)).trans (execAll_c5bits _ (bitsMsbFirst b).tail s)

/-- Settles O15: both sides are the one-bit step folded over the bits of the byte. -/
theorem c5ByteIsEightBitsMsbFirst : Obligations.C5ByteIsEightBitsMsbFirst :=
  ⟨fun b s => ⟨exec_c5byte b s, execAll_bitsMsbFirst b s⟩, fun _ _ => rfl,
    fun b => decode_encode (i := .c5byte b) rfl, by decide, by decide⟩

/-- Settles O16: the worked example is the sequence of the pseudo-operation CRC5. -/
theorem c5ReadReturnsAccumulator : Obligations.C5ReadReturnsAccumulator :=
  ⟨exec_c5read, fun _ => BitVec.toNat_setWidth_of_le (by decide), decode_encode (i := .c5read) rfl,
    fun _ hop harg => raisesIllegalOp_of_arg_ne_zero harg (.inr (.inl hop)),
    fun s => ⟨_, execAll_crc5Sequence [0x53, 0x05, 0x00, 0x00] s, by rw [respond_resp]; decide⟩⟩

end Sys2Proof.Machine
end

section
/-! Streaming (40_crc5.md R107): every operation but C5INIT takes `C5` along the bits it feeds, and a span may start at
C5INIT or at the reset event. -/

namespace Sys2Proof.Machine

theorem exec_c5_of_not_init {i : Instr} {s t : State} (h : exec i s = .next t) (notInit : i ≠ .c5init) :
    t.c5 = crc5bits s.c5 (crc5Fed i) := by
  cases i with
  | c5init => exact absurd rfl notInit
  | c5bit | c5byte | c5read => cases h; rfl
  | _ => exact (exec_agreeOn_other h (u := .crc5) nofun).symm

theorem execAll_c5_of_not_init {is : List Instr} {s t : State} (h : execAll is s = .next t)
    (notInit : ∀ i ∈ is, i ≠ .c5init) : t.c5 = crc5bits s.c5 (is.flatMap crc5Fed) := by
  induction is generalizing s with
  | nil => cases h; rfl
  | cons i is ih =>
    obtain ⟨headNotInit, tailNotInit⟩ := List.forall_mem_cons.1 notInit
    obtain ⟨u, hu⟩ := exec_next i s
    rw [execAll_cons hu] at h
    rw [ih h tailNotInit, exec_c5_of_not_init hu headNotInit, List.flatMap_cons, crc5bits_append]

/-- `C5` after a span, as a fold over its bits and, when they are those of a list of bytes, as their CRC-5. -/
theorem run_c5_span {is : List Instr} (legal : ∀ i ∈ is, i.wellFormed = true ∧ i ≠ .c5init) {s : State}
    (start : s.c5 = Config.crc5Init) :
    ∃ t, run is.length (offerAll is s) = .next t ∧
      t.c5 = crc5bits Config.crc5Init (is.flatMap crc5Fed) ∧
      ∀ bytes : List Byte, is.flatMap crc5Fed = bytes.flatMap bitsMsbFirst → t.c5 = crc5 bytes := by
  obtain ⟨t, ht⟩ := execAll_next is s
  have fold : t.c5 = crc5bits Config.crc5Init (is.flatMap crc5Fed) :=
    start ▸ execAll_c5_of_not_init ht fun i hi => (legal i hi).2
  exact ⟨t, (run_offerAll rfl (fun i hi => (legal i hi).1) s).trans ht, fold,
    fun bytes fed => by rw [fold, fed, crc5_eq_bits]⟩

/-- Settles O17: the first step is C5INIT or the reset event, and either loads 0x1F. -/
theorem crc5StreamingEqualsFunction : Obligations.Crc5StreamingEqualsFunction := by
  intro s is legal
  constructor
  · have initialised := step_offerAll_cons (i := .c5init) rfl is (exec_c5init s)
    rw [run_succ initialised]
    exact run_c5_span legal rfl
  · have wasReset : step { s with pending := .reset :: (offerAll is s).pending } = .next (offerAll is (resetEvent s)) :=
      step_reset rfl
    rw [run_succ wasReset]
    exact run_c5_span legal rfl

end Sys2Proof.Machine
end

section
/-! The bits of the one-bit step and of the finishing step of the CRC-16 (41_crc16.md R120, R123), and what the
recommended instance makes of them (R131; notes/assumptions/5.md). -/

namespace Sys2Proof.Machine

/-- The accumulator shifts left, and the feedback bit selects the polynomial (R120). -/
theorem crc16bit_getLsbD (p : Crc16Params) (c : BitVec 16) (d : Bool) (i : Nat) (hi : i < 16) :
    (crc16bit p c d).getLsbD i =
      ((decide (0 < i) && c.getLsbD (i - 1)) ^^ ((c.getLsbD 15 ^^ d) && p.poly.getLsbD i)) := by
  have shifted : (c <<< 1).getLsbD i = (decide (0 < i) && c.getLsbD (i - 1)) := by
    simp only [BitVec.getLsbD_shiftLeft, hi, decide_true, Bool.true_and, Nat.lt_one_iff, Nat.pos_iff_ne_zero, ne_eq,
      decide_not]
  rw [crc16bit, BitVec.getLsbD_xor, shifted]
  cases c.getLsbD 15 ^^ d <;> simp

/-- The bits are reversed if `refout`, then `xorout` is exclusive-ored in (R123). -/
theorem crc16fin_getLsbD (p : Crc16Params) (c : BitVec 16) (i : Nat) (hi : i < 16) :
    (crc16fin p c).getLsbD i = ((if p.refout then c.getLsbD (15 - i) else c.getLsbD i) ^^ p.xorout.getLsbD i) := by
  have reversed : (rev16 c).getLsbD i = c.getLsbD (15 - i) := by
    rw [rev16, BitVec.getLsbD_reverse, BitVec.getMsbD, decide_eq_true hi, Bool.true_and]
  rw [crc16fin, BitVec.getLsbD_xor]
  cases p.refout
  · rfl
  · exact congrArg (· ^^ _) reversed

theorem recommended_poly_getLsbD {i : Nat} (hi : i < 16) :
    Crc16Params.recommended.poly.getLsbD i = decide (i = 0 ∨ i = 5 ∨ i = 12) := by
  revert i; decide

/-- The customary check value of CRC-16/CCITT-FALSE, over the ASCII digits 123456789. -/
theorem crc16_recommended_digits :
    crc16 .recommended [0x31, 0x32, 0x33, 0x34, 0x35, 0x36, 0x37, 0x38, 0x39] = 0x29B1 := by
  decide +kernel

/-- Settles O26: of the step's bits only 0, 5 and 12 see the feedback, as the polynomial has no others. -/
theorem recommendedCrc16BitStep : Obligations.RecommendedCrc16BitStep := by
  refine ⟨fun c d => ⟨?_, ?_, ?_, fun i low high not5 not12 => ?_⟩, crc16_recommended_digits⟩ <;>
    rw [crc16bit_getLsbD _ _ _ _ (by omega), recommended_poly_getLsbD (by omega)]
  · simp
  · simp
  · simp
  · have positive : 0 < i := low
    simp [positive, positive.ne', not5, not12]

end Sys2Proof.Machine
end

section
/-! The four operations of the CRC-16 unit (41_crc16.md R125 to R128), for whatever value `CRC16_PARAMS` has. -/

namespace Sys2Proof.Machine

/-- Settles O20: the operation's meaning, its word, and the clause of R64 for operations without operand. -/
theorem c16InitLoadsInitialValue : Obligations.C16InitLoadsInitialValue :=
  ⟨exec_c16init, decode_encode (i := .c16init) rfl,
    fun _ hop harg => raisesIllegalOp_of_arg_ne_zero harg (.inr (.inr (.inl hop))), rfl⟩

/-- Settles O21: the operation's meaning, the step bit by bit, its two words, and the clause of R64 for a bit. -/
theorem c16BitShiftsAndFeedsBack : Obligations.C16BitShiftsAndFeedsBack :=
  ⟨exec_c16bit, crc16bit_getLsbD, decode_encode (i := .c16bit false) rfl, decode_encode (i := .c16bit true) rfl,
    fun _ hop harg => raisesIllegalOp_of_wide_bit harg (.inr hop), by decide, by decide⟩

theorem execAll_c16bits (d : Bool) (ds : List Bool) (s : State) :
    execAll ((d :: ds).map .c16bit) s = .next (setC16 (crc16bits Config.crc16Params s.c16 (d :: ds)) s) := by
  induction ds generalizing d s with
  | nil => rfl
  | cons e ds ih => exact (execAll_cons (exec_c16bit d s)).trans (ih e _)

/-- Feeding the bits of a byte one by one, in the order of `refin`, is feeding the byte (R121, R127). -/
theorem execAll_crc16order (b : Byte) (s : State) :
    execAll ((crc16order Config.crc16Params b).map .c16bit) s = exec (.c16byte b) s := by
  rw [exec_c16byte, crc16byte, crc16order]
  split
  · exact execAll_c16bits _ _ s
  · exact execAll_c16bits _ _ s

/-- The loop form of R121. -/
theorem crc16byte_eq_loop (p : Crc16Params) (c : BitVec 16) (b : Byte) :
    crc16byte p c b =
      (List.range 8).foldl (fun c k => crc16bit p c (b.getLsbD (if p.refin then k else 7 - k))) c := by
  rw [crc16byte, crc16order]
  cases p.refin
  · rfl
  · rfl

/-- Settles O22: both sides are the one-bit step folded over the bits of the byte in the order of `refin`. -/
theorem c16ByteIsEightBitsInRefinOrder : Obligations.C16ByteIsEightBitsInRefinOrder := by
  refine ⟨fun b s => ⟨exec_c16byte b s, ?_⟩, crc16byte_eq_loop, fun b => decode_encode (i := .c16byte b) rfl,
    by decide, by decide, by decide⟩
  exact (congrArg (execAll · s) (apply_ite (List.map Instr.c16bit) _ _ _).symm).trans (execAll_crc16order b s)

/-- Settles O23: the operation's meaning, the finishing step bit by bit, its word, and the clause of R64 for operations
without operand. -/
theorem c16ReadReturnsFinishedValue : Obligations.C16ReadReturnsFinishedValue :=
  ⟨exec_c16read, fun _ => BitVec.toNat_setWidth_of_le (by decide), crc16fin_getLsbD,
    decode_encode (i := .c16read) rfl,
    fun _ hop harg => raisesIllegalOp_of_arg_ne_zero harg (.inr (.inr (.inr (.inl hop)))), crc16_recommended_digits⟩

end Sys2Proof.Machine
end

section
/-! Streaming (41_crc16.md R129): every operation but C16INIT takes `C16` along the bits it feeds, and a span may start
at C16INIT or at the reset event. -/

namespace Sys2Proof.Machine

theorem exec_c16_of_not_init {i : Instr} {s t : State} (h : exec i s = .next t) (notInit : i ≠ .c16init) :
    t.c16 = crc16bits Config.crc16Params s.c16 (crc16Fed Config.crc16Params i) := by
  cases i with
  | c16init => exact absurd rfl notInit
  | c16bit | c16byte | c16read => cases h; rfl
  | _ => exact (exec_agreeOn_other h (u := .crc16) nofun).symm

/-- What each operation of a list folds what it feeds into, the list folds everything it feeds into. -/
theorem execAll_foldl_fed {α β : Type} {reg : State → α} {f : α → β → α} {fed : Instr → List β} {is : List Instr}
    (each : ∀ i ∈ is, ∀ s t, exec i s = .next t → reg t = (fed i).foldl f (reg s)) {s t : State}
    (h : execAll is s = .next t) : reg t = (is.flatMap fed).foldl f (reg s) := by
  induction is generalizing s with
  | nil => cases h; rfl
  | cons i is ih =>
    obtain ⟨first, rest⟩ := List.forall_mem_cons.1 each
    obtain ⟨u, hu⟩ := exec_next i s
    rw [execAll_cons hu] at h
    rw [ih rest h, first s u hu, List.flatMap_cons, List.foldl_append]

/-- C16READ returns the CRC-16 of the bytes whose accumulator `C16` holds. -/
theorem exec_c16read_of_acc {t : State} {bytes : List Byte} (acc : t.c16 = crc16acc Config.crc16Params bytes) :
    exec .c16read t = .next { t with resp := some (zext32 (crc16 Config.crc16Params bytes)) } := by
  rw [crc16, ← acc]
  exact exec_c16read t

/-- `C16` after a span, as a fold over its bits and, when they are those of a list of bytes, as their accumulator, which
C16READ then finishes. -/
theorem run_c16_span {is : List Instr} (legal : ∀ i ∈ is, i.wellFormed = true ∧ i ≠ .c16init) {s : State}
    (start : s.c16 = Config.crc16Params.init) :
    ∃ t, run is.length (offerAll is s) = .next t ∧
      t.c16 = crc16bits Config.crc16Params Config.crc16Params.init (is.flatMap (crc16Fed Config.crc16Params)) ∧
      ∀ bytes : List Byte,
        is.flatMap (crc16Fed Config.crc16Params) = bytes.flatMap (crc16order Config.crc16Params) →
        t.c16 = crc16acc Config.crc16Params bytes ∧
        exec .c16read t = .next { t with resp := some (zext32 (crc16 Config.crc16Params bytes)) } := by
  obtain ⟨t, ht⟩ := execAll_next is s
  have fold : t.c16 = crc16bits Config.crc16Params s.c16 (is.flatMap (crc16Fed Config.crc16Params)) :=
    execAll_foldl_fed (reg := State.c16) (fun i hi _ _ h => exec_c16_of_not_init h (legal i hi).2) ht
  rw [start] at fold
  refine ⟨t, (run_offerAll rfl (fun i hi => (legal i hi).1) s).trans ht, fold, fun bytes fed => ?_⟩
  have acc : t.c16 = crc16acc Config.crc16Params bytes := by rw [fold, fed, crc16acc_eq_bits]
  exact ⟨acc, exec_c16read_of_acc acc⟩

/-- Settles O24: the first step is C16INIT or the reset event, and either loads `init`. -/
theorem crc16StreamingEqualsFunction : Obligations.Crc16StreamingEqualsFunction := by
  intro s is legal
  constructor
  · rw [run_succ (step_offerAll_cons (i := .c16init) rfl is (exec_c16init s))]
    exact run_c16_span legal rfl
  · have wasReset : step { s with pending := .reset :: (offerAll is s).pending } = .next (offerAll is (resetEvent s)) :=
      step_reset rfl
    obtain ⟨t, ht, -, onBytes⟩ := run_c16_span legal (s := resetEvent s) rfl
    exact ⟨t, (run_succ wasReset).trans ht, onBytes⟩

end Sys2Proof.Machine
end

section
/-! The residue (41_crc16.md R130): fed its own bits from the top, the accumulator is shifted out, whatever the
polynomial. -/

namespace Sys2Proof.Machine

/-- Fed its own top bit, the generator only shifts. -/
theorem crc16bit_msb (p : Crc16Params) (c : BitVec 16) : crc16bit p c (c.getMsbD 0) = c <<< 1 := by
  simp [crc16bit, BitVec.getMsbD]

/-- Fed its own `n` top bits, the generator shifts by `n` places: the feedback bit is 0 at each of them. -/
theorem crc16bits_own_top (p : Crc16Params) (c : BitVec 16) (n : Nat) :
    crc16bits p c ((List.range n).map c.getMsbD) = c <<< n := by
  induction n with
  | zero => simp
  | succ n ih =>
    have next : (c <<< n).getMsbD 0 = c.getMsbD n := by simp [BitVec.getMsbD_shiftLeft]
    rw [List.range_succ, List.map_append, crc16bits_append, ih, List.map_singleton, ← next, crc16bits_cons,
      crc16bit_msb, crc16bits_nil, BitVec.shiftLeft_add]

/-- The two bytes of an accumulator are its bits from the top. -/
theorem bytes16BE_bits (c : BitVec 16) : (bytes16BE c).flatMap bitsMsbFirst = (List.range 16).map c.getMsbD := by
  simp [bytes16BE, bitsMsbFirst, List.range_succ, BitVec.getMsbD]

theorem crc16bits_own_bytes (p : Crc16Params) (c : BitVec 16) :
    crc16bits p c ((bytes16BE c).flatMap bitsMsbFirst) = 0 := by
  rw [bytes16BE_bits, crc16bits_own_top]
  exact BitVec.shiftLeft_eq_zero le_rfl

section
variable {p : Crc16Params} (refin : p.refin = false) (refout : p.refout = false) (xorout : p.xorout = 0)

include refin in
theorem crc16order_plain : crc16order p = bitsMsbFirst := by
  funext b
  simp [crc16order, refin]

include refout xorout in
theorem crc16_plain (bytes : List Byte) : crc16 p bytes = crc16acc p bytes := by
  simp [crc16, crc16fin, refout, xorout]

include refin refout xorout in
/-- In the plain case the CRC-16 is the accumulator itself, so a message followed by it leaves zero. -/
theorem crc16_append_own (bytes : List Byte) : crc16 p (bytes ++ bytes16BE (crc16 p bytes)) = 0 := by
  rw [crc16_plain refout xorout, crc16_plain refout xorout, crc16acc_append, foldl_crc16byte, crc16order_plain refin,
    crc16bits_own_bytes]

end

/-- From byte 2 on a job frame is the rest of its body and the CRC-16 of that rest (R141, R143). -/
theorem frameJob_drop (p : Crc16Params) (k : JobKind) (j : JobFields) (mid : Vector (Vector Byte 32) k.midstates) :
    (frameJob p k j mid).drop 2 = (jobBody j mid).drop 2 ++ bytes16BE (crc16 p ((jobBody j mid).drop 2)) :=
  rfl

/-- Settles O25: a sealed job frame ends in its own CRC-16. -/
theorem crc16ResidueIsZeroInThePlainCase : Obligations.Crc16ResidueIsZeroInThePlainCase := by
  intro p refin refout xorout
  refine ⟨crc16bits_own_bytes p, crc16_append_own refin refout xorout, fun k j mid => ?_⟩
  rw [frameJob_drop]
  exact crc16_append_own refin refout xorout _

end Sys2Proof.Machine
end

section
/-! The sealed frames: the bytes `seal5` and `seal16` append, read from the frame and from the response of SEAL5's and
SEAL16's operations (42_tx_framing.md R140, R141, R146). -/

namespace Sys2Proof.Machine

theorem seal5_length (body : List Byte) : (seal5 body).length = body.length + 1 := List.length_append

theorem seal16_length (p : Crc16Params) (body : List Byte) : (seal16 p body).length = body.length + 2 :=
  List.length_append

/-- The trailer byte is three zero bits above the check bits (R140, R44). -/
theorem setWidth_byte_eq_append (c : BitVec 5) : c.setWidth 8 = (0#3 ++ c : BitVec 8) := by
  simp [BitVec.setWidth_eq_append]

theorem trailer_upper_bits (c : BitVec 5) : (c.setWidth 8).extractLsb' 5 3 = 0 := by
  rw [setWidth_byte_eq_append]
  exact BitVec.extractLsb'_append_eq_left

theorem trailer_check_bits (c : BitVec 5) : (c.setWidth 8).extractLsb' 0 5 = c := by
  rw [setWidth_byte_eq_append]
  exact BitVec.extractLsb'_append_eq_right

/-- The low byte of C5READ's response is the trailer `seal5` appends (R77, R140). -/
theorem appendTrailer_zext32 (body : List Byte) : appendTrailer body (zext32 (crc5 (body.drop 2))) = seal5 body := by
  have low_byte (c : BitVec 5) : (zext32 c).extractLsb' 0 8 = c.setWidth 8 := by
    rw [zext32, ← BitVec.setWidth_eq_extractLsb' (by decide), BitVec.setWidth_setWidth_of_le _ (by decide)]
  rw [appendTrailer, low_byte, seal5]

/-- The two low bytes of C16READ's response are the CRC bytes `seal16` appends (R77, R141). -/
theorem appendCrc16_zext32 (p : Crc16Params) (body : List Byte) :
    appendCrc16 body (zext32 (crc16 p (body.drop 2))) = seal16 p body := by
  have same_byte (c : BitVec 16) (k : Nat) (hk : k + 8 ≤ 32) : (zext32 c).extractLsb' k 8 = c.extractLsb' k 8 :=
    BitVec.extractLsb'_setWidth_of_le hk
  rw [appendCrc16, same_byte _ 8 (by decide), same_byte _ 0 (by decide), seal16, bytes16BE]

/-- Settles O29: the trailer is zeros above the check bits, and the low byte of the response of CRC5's expansion. -/
theorem seal5AppendsTheCrc5Trailer : Obligations.Seal5AppendsTheCrc5Trailer := by
  refine ⟨fun body _ => ⟨seal5_length body, ?_, fun s => ?_⟩, by decide +kernel⟩
  · refine ⟨(crc5 (body.drop 2)).setWidth 8, rfl, trailer_upper_bits _, trailer_check_bits _, fun bare => ?_⟩
    rw [List.drop_eq_nil_of_le bare.le]
    rfl
  · exact ⟨_, _, execAll_crc5Sequence (body.drop 2) s, rfl, rfl, appendTrailer_zext32 body⟩

/-- Settles O30: the two bytes are the halves of the CRC-16, and the low bytes of the response of CRC16's expansion. -/
theorem seal16AppendsTheCrc16BigEndian : Obligations.Seal16AppendsTheCrc16BigEndian := by
  refine ⟨fun body _ => ⟨fun p => ⟨seal16_length p body, ?_⟩, fun s => ?_⟩, by decide +kernel⟩
  · exact ⟨_, _, rfl, BitVec.extractLsb'_append_extractLsb'⟩
  · exact ⟨_, _, execAll_crc16Sequence (body.drop 2) s, rfl, rfl, appendCrc16_zext32 _ body⟩

/-- Most significant first, the trailer's zero bits stand between the message and the check bits (R146). -/
theorem bitsMsbFirst_trailer (c : BitVec 5) :
    bitsMsbFirst (c.setWidth 8) =
      [false, false, false] ++ [c.getLsbD 4, c.getLsbD 3, c.getLsbD 2, c.getLsbD 1, c.getLsbD 0] := by
  simp [bitsMsbFirst]

/-- From byte 2 on a sealed frame is the rest of its body and the trailer. -/
theorem seal5_drop {body : List Byte} (preamble : 2 ≤ body.length) :
    (seal5 body).drop 2 = body.drop 2 ++ [(crc5 (body.drop 2)).setWidth 8] :=
  List.drop_append_of_le_length preamble

/-- Settles O34: the trailer's eight bits are fed after those of the rest of the body. -/
theorem outboundTrailerIsNoZeroResidue : Obligations.OutboundTrailerIsNoZeroResidue := by
  refine ⟨fun body preamble => ⟨?_, _, rfl, trailer_check_bits _⟩, by decide +kernel, by decide +kernel⟩
  rw [seal5_drop preamble, crc5_append, List.foldl_cons, List.foldl_nil, crc5byte, bitsMsbFirst_trailer]

end Sys2Proof.Machine
end

section
/-! The layout and the length of the frames (30_encoding.md R68; 42_tx_framing.md R143, R144). -/

namespace Sys2Proof.Machine

/-- A little-endian field is the big-endian one read backwards (R45, R46). -/
theorem bytesLE_le32 (b0 b1 b2 b3 : Byte) : bytesLE (le32 b0 b1 b2 b3) = [b0, b1, b2, b3] :=
  congrArg List.reverse (bytesBE_be32 b3 b2 b1 b0)

theorem midstates_length {n : Nat} (mid : Vector (Vector Byte 32) n) :
    (mid.toList.flatMap Vector.toList).length = 32 * n := by
  simp [List.length_flatMap, Nat.mul_comm]

theorem jobBody_length {n : Nat} (j : JobFields) (mid : Vector (Vector Byte 32) n) :
    (jobBody j mid).length = 22 + 32 * n := by
  rw [jobBody, List.length_append, midstates_length]
  rfl

theorem frameJob_length (p : Crc16Params) (k : JobKind) (j : JobFields) (mid : Vector (Vector Byte 32) k.midstates) :
    (frameJob p k j mid).length = 24 + 32 * k.midstates := by
  rw [frameJob, seal16_length, jobBody_length]
  omega

/-- A job body whose fields are given byte by byte (R68, R143). -/
theorem jobBody_le32 {n : Nat} (opc lenb jobId count b0 b1 b2 b3 t0 t1 t2 t3 m0 m1 m2 m3 : Byte)
    (mid : Vector (Vector Byte 32) n) :
    jobBody ⟨opc, lenb, jobId, count, le32 b0 b1 b2 b3, le32 t0 t1 t2 t3, le32 m0 m1 m2 m3⟩ mid =
      Config.preTx ++ ([opc, lenb, jobId, count, 0x00, 0x00, 0x00, 0x00, b0, b1, b2, b3, t0, t1, t2, t3, m0, m1, m2, m3]
        ++ mid.toList.flatMap Vector.toList) := by
  rw [jobBody, bytesLE_le32, bytesLE_le32, bytesLE_le32]
  rfl

/-- Settles O32: past the two preamble bytes the body is exactly the span its CRC-16 covers. -/
theorem jobFrameLayout : Obligations.JobFrameLayout := by
  intro p k opc lenb jobId count b0 b1 b2 b3 t0 t1 t2 t3 m0 m1 m2 m3 mid f covered
  refine ⟨?_, ?_, by cases k <;> rfl⟩
  · exact congrArg (seal16 p) (jobBody_le32 ..)
  · rw [List.length_append, midstates_length]
    rfl

/-- Settles O33: the body's length and the bytes appended to it. -/
theorem frameSizes : Obligations.FrameSizes :=
  ⟨fun _ _ _ => seal5_length _, fun _ _ _ _ => seal5_length _, fun p j mid => frameJob_length p .oneMidstate j mid,
    fun p j mid => frameJob_length p .fourMidstates j mid⟩

end Sys2Proof.Machine
end

section
/-! The operations of the validator one by one (43_rx_validator.md R160, R161). -/

namespace Sys2Proof.Machine

/-- Settles O35: the operation's meaning, its word, and the clause of R64 for operations without operand. -/
theorem vclrEmptiesTheValidator : Obligations.VclrEmptiesTheValidator :=
  ⟨exec_vclr, decode_encode (i := .vclr) rfl,
    fun _ hop harg => raisesIllegalOp_of_arg_ne_zero harg (.inr (.inr (.inr (.inr (.inl hop)))))⟩

/-- A push leaves the bytes at every other index as they were (R161). -/
theorem pushByte_getElem?_of_ne (b : Byte) {s : State} {j : Nat} (hj : j ≠ s.rxn) :
    (pushByte b s).rxb[j]? = s.rxb[j]? := by
  rw [rxn_eq] at hj
  rw [pushByte_rxb]
  rcases Nat.lt_or_gt_of_ne hj with below | above
  · exact List.getElem?_append_left below
  · rw [List.getElem?_eq_none (by simpa using above), List.getElem?_eq_none above.le]

/-- Settles O36: a push appends, which is storing at index `RXN`; it finds V_IDLE since a verdict needs nine bytes. -/
theorem vpushStoresAtRxn : Obligations.VpushStoresAtRxn := by
  refine ⟨fun b s room => ⟨_, exec_vpush_room b room, rfl, ?_, ?_, fun _ => pushByte_getElem?_of_ne b⟩,
    fun b s full => exec_vpush_full b full, fun b => decode_encode (i := .vpush b) rfl,
    fun s hs room => congrArg CheckResult.vst (hs.cleared_of_room room)⟩
  · exact List.getElem?_concat_length
  · exact List.length_append

end Sys2Proof.Machine
end

section
/-! The function `validate`, one equation per outcome, in the order of its tests (43_rx_validator.md R162, R166). -/

namespace Sys2Proof.Machine

theorem preambleGood_iff (f : Frame) : f.preambleGood = true ↔ f.f0 = 0xAA ∧ f.f1 = 0x55 := by
  rw [Frame.preambleGood, Bool.and_eq_true, beq_iff_eq, beq_iff_eq]
  rfl

theorem crcGood_iff_residue (f : Frame) : f.crcGood = true ↔ crc5 f.span = 0x00 := beq_iff_eq

section
variable {f : Frame}

theorem validate_of_bad_preamble (known : Byte → Bool) (h : ¬ (f.f0 = 0xAA ∧ f.f1 = 0x55)) :
    validate known f = ⟨.errPreamble, none, none, none, none⟩ := by
  rw [← preambleGood_iff] at h
  simp [validate, h]

variable (h0 : f.f0 = 0xAA) (h1 : f.f1 = 0x55)
include h0 h1

theorem validate_of_bad_crc (known : Byte → Bool) (crc : crc5 f.span ≠ 0x00) :
    validate known f = ⟨.errCrc, none, none, none, none⟩ := by
  rw [ne_eq, ← crcGood_iff_residue] at crc
  simp [validate, (preambleGood_iff f).2 ⟨h0, h1⟩, crc]

variable (crc : crc5 f.span = 0x00)
include crc

/-- Past steps 1 and 2 the type selector and the address decide. -/
theorem validate_of_good_crc (known : Byte → Bool) :
    validate known f =
      if trailerTyp f.f8 then ⟨.job, some f.payload, some f.f6, some f.f7, some f.f8⟩
      else if !known f.f7 then ⟨.errUnkreg, none, none, some f.f7, some f.f8⟩
      else ⟨.reg, some f.payload, some f.f6, some f.f7, some f.f8⟩ := by
  rw [← crcGood_iff_residue] at crc
  simp [validate, (preambleGood_iff f).2 ⟨h0, h1⟩, crc]

/-- The type selector is tested before the address, which is then not looked up (R166). -/
theorem validate_of_job (known : Byte → Bool) (typ : f.f8.getLsbD 7 = true) :
    validate known f = ⟨.job, some f.payload, some f.f6, some f.f7, some f.f8⟩ := by
  rw [validate_of_good_crc h0 h1 crc, trailerTyp, typ]
  rfl

theorem validate_of_unknown {known : Byte → Bool} (typ : f.f8.getLsbD 7 = false) (unknown : known f.f7 = false) :
    validate known f = ⟨.errUnkreg, none, none, some f.f7, some f.f8⟩ := by
  rw [validate_of_good_crc h0 h1 crc, trailerTyp, typ, unknown]
  rfl

theorem validate_of_known {known : Byte → Bool} (typ : f.f8.getLsbD 7 = false) (isKnown : known f.f7 = true) :
    validate known f = ⟨.reg, some f.payload, some f.f6, some f.f7, some f.f8⟩ := by
  rw [validate_of_good_crc h0 h1 crc, trailerTyp, typ, isKnown]
  rfl

end

/-- Settles O37, outcome by outcome. -/
theorem validateOutcomes : Obligations.ValidateOutcomes := by
  intro known f0 f1 f2 f3 f4 f5 f6 f7 f8
  let f : Frame := ⟨f0, f1, f2, f3, f4, f5, f6, f7, f8⟩
  exact ⟨fun bad => validate_of_bad_preamble (f := f) known (not_and_or.2 bad),
    fun h0 h1 => validate_of_bad_crc (f := f) h0 h1 known,
    fun h0 h1 crc => validate_of_job (f := f) h0 h1 crc known,
    fun h0 h1 crc => validate_of_unknown (f := f) h0 h1 crc,
    fun h0 h1 crc => validate_of_known (f := f) h0 h1 crc⟩

/-- Settles O40: with the three premises the outcome does not name the set of known addresses. -/
theorem jobResponseIsNeverLookedUp : Obligations.JobResponseIsNeverLookedUp := by
  intro known f h0 h1 crc typ
  have outcome (known : Byte → Bool) := validate_of_job h0 h1 crc known typ
  exact ⟨congrArg CheckResult.vst (outcome known), (outcome known).trans (outcome _).symm⟩

end Sys2Proof.Machine
end

section
/-! VCHECK (43_rx_validator.md R163), and the outcomes of `validate` for the frames of scenarios 3 and 4. -/

namespace Sys2Proof.Machine

/-- The frame of scenario 3: a register response from address 0x00, a known one. -/
theorem validate_scenario3 :
    validate Config.regAddrSet ⟨0xAA, 0x55, 0x13, 0x97, 0x18, 0x00, 0x00, 0x00, 0x06⟩ =
      ⟨.reg, some 0x13971800, some 0x00, some 0x00, some 0x06⟩ :=
  validate_of_known rfl rfl (by decide +kernel) rfl regAddrSet_00

/-- The frame of scenario 4: a job response. -/
theorem validate_scenario4 :
    validate Config.regAddrSet ⟨0xAA, 0x55, 0x97, 0xC3, 0x28, 0xB6, 0x01, 0x63, 0x9C⟩ =
      ⟨.job, some 0x97C328B6, some 0x01, some 0x63, some 0x9C⟩ :=
  validate_of_job rfl rfl (by decide +kernel) _ rfl

/-- VCHECK of nine bytes whose outcome under `validate` is known. -/
theorem exec_vcheck_of_validate {s : State} {f : Frame} {r : CheckResult} (hr : validate Config.regAddrSet f = r)
    (hf : s.rxb = f.toList) : exec .vcheck s = .next (latch r s) :=
  hr ▸ exec_vcheck_full hf

/-- Settles O38: the operation's meaning on nine bytes and on any other number, its word, and the clause of R64 for
operations without operand. -/
theorem vcheckLatchesTheVerdict : Obligations.VcheckLatchesTheVerdict :=
  ⟨fun _ _ => exec_vcheck_full, fun _ => exists_frame, fun _ => exec_vcheck_short, decode_encode (i := .vcheck) rfl,
    fun _ hop harg => raisesIllegalOp_of_arg_ne_zero harg (.inr (.inr (.inr (.inr (.inr hop))))),
    fun _ hf => exec_vcheck_of_validate validate_scenario3 hf⟩

end Sys2Proof.Machine
end

section
/-! VREAD (43_rx_validator.md R164): a result register is returned under the verdicts that carry it, and is NO_RESULT
under the others. -/

namespace Sys2Proof.Machine

section
variable {n : Nat} {carried : Bool} {r : Option (BitVec n)} {s : State} {i : Instr}
  (read : exec i s = .next (readResult carried r s))
include read

theorem exec_of_readResult_held {v : BitVec n} (hc : carried = true) (hr : r = some v) :
    exec i s = .next { s with resp := some (zext32 v) } := by
  rw [read, hc, hr, readResult_held]
  rfl

theorem exec_of_readResult_notCarried (hc : ¬ carried = true) :
    exec i s = .next { s with flt := s.flt ||| 0b1000, resp := none } := by
  rw [Bool.not_eq_true] at hc
  rw [read, hc, readResult_notCarried]
  rfl

end

theorem raisesIllegalOp_of_bad_selector {w : Command} (hop : w.op = 0xC)
    (hsel : w.arg.extractLsb' 3 5 ≠ 0 ∨ w.arg.extractLsb' 0 3 = 7) : RaisesIllegalOp w :=
  raisesIllegalOp ((not_decode_ok_iff w).2 (.inr (.inr (.inr ⟨hop, hsel⟩))))

/-- Settles O43: each register with the verdicts that carry it, the seven words, scenario 4 and the clause of R64 for a
selector. -/
theorem vreadReturnsTheSelectedRegister : Obligations.VreadReturnsTheSelectedRegister := by
  refine ⟨fun s => ⟨exec_vread_status s, exec_vread_count s, exec_vread_faults s⟩,
    fun s v verdict held => ?_, fun s v verdict held => ?_, fun s v verdict held => ?_, fun s v verdict held => ?_,
    fun s notReg notJob => ?_, fun s notReg notJob notUnk => ?_,
    ⟨decode_encode (i := .vread .status) rfl, decode_encode (i := .vread .payload) rfl,
      decode_encode (i := .vread .b6) rfl, decode_encode (i := .vread .b7) rfl,
      decode_encode (i := .vread .trailer) rfl, decode_encode (i := .vread .count) rfl,
      decode_encode (i := .vread .faults) rfl⟩,
    fun s hf => ⟨_, exec_vcheck_of_validate validate_scenario4 hf, rfl, rfl, rfl, rfl, rfl⟩,
    fun _ => raisesIllegalOp_of_bad_selector⟩
  · exact zext32_self v ▸ exec_of_readResult_held (exec_vread_payload s) ((carriesPayload_iff _).2 verdict) held
  · exact exec_of_readResult_held (exec_vread_b6 s) ((carriesPayload_iff _).2 verdict) held
  · exact exec_of_readResult_held (exec_vread_b7 s) ((carriesAddress_iff _).2 verdict) held
  · exact exec_of_readResult_held (exec_vread_trailer s) ((carriesAddress_iff _).2 verdict) held
  · have notCarried : ¬ s.vst.carriesPayload = true := by simp [carriesPayload_iff, notReg, notJob]
    exact ⟨exec_of_readResult_notCarried (exec_vread_payload s) notCarried,
      exec_of_readResult_notCarried (exec_vread_b6 s) notCarried⟩
  · have notCarried : ¬ s.vst.carriesAddress = true := by simp [carriesAddress_iff, notReg, notJob, notUnk]
    exact ⟨exec_of_readResult_notCarried (exec_vread_b7 s) notCarried,
      exec_of_readResult_notCarried (exec_vread_trailer s) notCarried⟩

end Sys2Proof.Machine
end

section
/-! What follows a VCHECK (43_rx_validator.md R169), and the sequence PARSE that holds one (R173). -/

namespace Sys2Proof.Machine

/-- What each operation of a list keeps, the list keeps. -/
theorem execAll_keeps {P : State → Prop} {is : List Instr}
    (keep : ∀ i ∈ is, ∀ s t, P s → exec i s = .next t → P t) {s t : State} (hs : P s) (h : execAll is s = .next t) :
    P t := by
  induction is generalizing s with
  | nil => cases h; exact hs
  | cons i is ih =>
    obtain ⟨first, rest⟩ := List.forall_mem_cons.1 keep
    obtain ⟨u, hu⟩ := exec_next i s
    rw [execAll_cons hu] at h
    exact ih rest (first s u hs hu) h

/-- The generators do not touch the validator, and its own read changes no register of it (R226). -/
theorem exec_validatorRegs_of_keepsResults {i : Instr} {s t : State} (keeps : keepsResults i = true)
    (h : exec i s = .next t) : t.validatorRegs = s.validatorRegs := by
  cases i with
  | vread sel =>
    rcases exec_vread_cases sel s with ⟨v, hv⟩ | ⟨u, -, hv⟩
    · rw [hv] at h; cases h; rfl
    · rw [hv] at h; cases h; rfl
  | vclr | vpush | vcheck => cases keeps
  | _ => exact (exec_agreeOn_other h (u := .validator) nofun).symm

/-- Settles O46: what the operations between leave alone includes the buffer, which is all that VCHECK reads. -/
theorem vcheckIsIdempotent : Obligations.VcheckIsIdempotent := by
  intro s is full keeps
  obtain ⟨f, hf⟩ := exists_frame full
  obtain ⟨u, hu⟩ := execAll_next is (latch (validate Config.regAddrSet f) s)
  have kept : u.validatorRegs = (s.rxb, validate Config.regAddrSet f) :=
    execAll_keeps (P := fun u => u.validatorRegs = (s.rxb, validate Config.regAddrSet f))
      (fun i hi _ _ before h => (exec_validatorRegs_of_keepsResults (keeps i hi) h).trans before) rfl hu
  have sameBytes : u.rxb = s.rxb := congrArg Prod.fst kept
  exact ⟨_, u, _, exec_vcheck_full hf, hu, exec_vcheck_full (sameBytes.trans hf), rfl, kept,
    congrArg (·, validate Config.regAddrSet f) sameBytes⟩

/-- Settles O47: the run is the expansion executed, and what that leaves is written out in `execAll_parse`. -/
theorem parseGivesTheVerdict : Obligations.ParseGivesTheVerdict :=
  fun s f => ⟨_, (run_offerAll rfl (parse_wellFormed f) s).trans (execAll_parse f s), rfl, rfl, rfl, rfl, rfl, rfl, rfl⟩

end Sys2Proof.Machine
end

section
/-! The check in 51-bit form and how many spans pass it (43_rx_validator.md R170, R171). -/

namespace Sys2Proof.Machine

/-- The operations of R170 feed the 51 bits and return their CRC-5. -/
theorem execAll_crc51 (f : Frame) (s : State) :
    execAll (.c5init :: [f.f2, f.f3, f.f4, f.f5, f.f6, f.f7].map .c5byte ++
      ([f.f8.getLsbD 7, f.f8.getLsbD 6, f.f8.getLsbD 5].map .c5bit ++ [.c5read])) s =
      .next (respond (zext32 f.crc51) (setC5 f.crc51 s)) := by
  have bytes := (execAll_cons (exec_c5init s)).trans
    (execAll_c5bytes Config.crc5Init [f.f2, f.f3, f.f4, f.f5, f.f6, f.f7] s)
  have bits := execAll_c5bits (crc5 [f.f2, f.f3, f.f4, f.f5, f.f6, f.f7])
    [f.f8.getLsbD 7, f.f8.getLsbD 6, f.f8.getLsbD 5] s
  have all : crc5bits (crc5 [f.f2, f.f3, f.f4, f.f5, f.f6, f.f7])
      [f.f8.getLsbD 7, f.f8.getLsbD 6, f.f8.getLsbD 5] = f.crc51 := by
    rw [crc5_eq_bits, ← crc5bits_append]
    rfl
  rw [all] at bits
  exact (execAll_append bytes).trans ((execAll_append bits).trans (execAll_cons (exec_c5read _)))

/-- Settles O41: the last five bits of the span are the check bits, fed after the 51. -/
theorem checkInFiftyOneBitForm : Obligations.CheckInFiftyOneBitForm :=
  fun f => ⟨(crcGood_iff_residue f).symm.trans (crcGood_iff f), fun s => ⟨_, execAll_crc51 f s, rfl⟩⟩

/-- The bits of a word, most significant first. -/
def bitsOf {n : Nat} (v : BitVec n) : List Bool := (List.range n).map v.getMsbD

theorem bitsOf_append {m n : Nat} (x : BitVec m) (y : BitVec n) : bitsOf (x ++ y) = bitsOf x ++ bitsOf y := by
  simp only [bitsOf, List.range_add, List.map_append, List.map_map]
  congr 1
  · exact List.map_congr_left fun i hi => by
      rw [BitVec.getMsbD_append, if_neg (Nat.not_le.2 (List.mem_range.1 hi))]
  · exact List.map_congr_left fun i _ => by
      rw [Function.comp_apply, BitVec.getMsbD_append, if_pos (Nat.le_add_right m i), Nat.add_sub_cancel_left]

theorem spanOf_bits (v : BitVec 56) : (spanOf v).flatMap bitsMsbFirst = bitsOf v := by
  simp [spanOf, bitsMsbFirst, bitsOf, List.range_succ, BitVec.getMsbD]

/-- The check bits that pass with the 51 bits `m`: their CRC-5. -/
def passingCheck (m : BitVec 51) : BitVec 5 := crc5bits Config.crc5Init (bitsOf m)

theorem span_passes_iff (m : BitVec 51) (chk : BitVec 5) : crc5 (spanOf (m ++ chk)) = 0x00 ↔ chk = passingCheck m := by
  obtain ⟨leavesZero, -, -⟩ := checkBitsLeaveZero
  have fed : crc5 (spanOf (m ++ chk)) = crc5bits (passingCheck m) (bitsOf chk) := by
    rw [crc5_eq_bits, spanOf_bits, bitsOf_append, crc5bits_append, passingCheck]
  rw [fed]
  exact leavesZero (passingCheck m) chk

/-- The span with the 51 bits `m` that passes. -/
def passingSpan (m : BitVec 51) : {v : BitVec 56 // crc5 (spanOf v) = 0x00} :=
  ⟨m ++ passingCheck m, (span_passes_iff m _).2 rfl⟩

theorem passingSpan_bijective : Function.Bijective passingSpan := by
  constructor
  · intro m m' h
    have upper (m : BitVec 51) : (passingSpan m).val.extractLsb' 5 51 = m := BitVec.extractLsb'_append_eq_left
    rw [← upper m, h, upper m']
  · rintro ⟨v, passes⟩
    have cut : v.extractLsb' 5 51 ++ v.extractLsb' 0 5 = v := BitVec.extractLsb'_append_extractLsb'
    have chk : v.extractLsb' 0 5 = passingCheck (v.extractLsb' 5 51) :=
      (span_passes_iff _ _).1 (cut.symm ▸ passes)
    have rebuilt : v.extractLsb' 5 51 ++ passingCheck (v.extractLsb' 5 51) = v := chk ▸ cut
    exact ⟨v.extractLsb' 5 51, Subtype.ext rebuilt⟩

/-- Settles O42: the spans that pass are, one for one, the choices of the 51 bits. -/
theorem oneInThirtyTwoSpansPasses : Obligations.OneInThirtyTwoSpansPasses := by
  refine ⟨fun m => ⟨passingCheck m, (span_passes_iff m _).2 rfl, fun chk' => (span_passes_iff m chk').1⟩, ?_⟩
  calc Nat.card {v : BitVec 56 // crc5 (spanOf v) = 0x00}
    _ = Nat.card (BitVec 51) := (Nat.card_eq_of_bijective passingSpan passingSpan_bijective).symm
    _ = Nat.card (Fin (2 ^ 51)) := Nat.card_congr BitVec.equivFin.toEquiv
    _ = 2 ^ 51 := Nat.card_fin _

end Sys2Proof.Machine
end

section
/-! What each class of operations leaves unchanged, in the forms that fault as well (44_absent_families.md R180). -/

namespace Sys2Proof.Machine

theorem exec_vpush_frame {b : Byte} {s t : State} (h : exec (.vpush b) s = .next t) :
    t.c5 = s.c5 ∧ t.c16 = s.c16 ∧ t.results = s.results ∧ t.resp = none ∧
      (∀ j : Nat, j ≠ s.rxn → t.rxb[j]? = s.rxb[j]?) ∧
      (t.flt = s.flt ∨ (t.rxb = s.rxb ∧ t.flt = s.flt ||| 0b0010)) := by
  by_cases full : s.rxn = 9
  · rw [exec_vpush_full b full] at h; cases h
    exact ⟨rfl, rfl, rfl, rfl, fun _ _ => rfl, .inr ⟨rfl, rfl⟩⟩
  · rw [exec_vpush_room b full] at h; cases h
    exact ⟨rfl, rfl, rfl, rfl, fun _ => pushByte_getElem?_of_ne b, .inl rfl⟩

theorem exec_vcheck_frame {s t : State} (h : exec .vcheck s = .next t) :
    t.c5 = s.c5 ∧ t.c16 = s.c16 ∧ t.rxb = s.rxb ∧ t.resp = none ∧
      (t.flt = s.flt ∨ (t.results = s.results ∧ t.flt = s.flt ||| 0b0100)) := by
  by_cases full : s.rxn = 9
  · obtain ⟨f, hf⟩ := exists_frame full
    rw [exec_vcheck_full hf] at h; cases h
    exact ⟨rfl, rfl, rfl, rfl, .inl rfl⟩
  · rw [exec_vcheck_short full] at h; cases h
    exact ⟨rfl, rfl, rfl, rfl, .inr ⟨rfl, rfl⟩⟩

/-- VREAD is the one read that can fault; a selector that may be issued raises NO_RESULT only. -/
theorem exec_read_frame {i : Instr} {s t : State} (wf : i.wellFormed = true) (read : isRead i = true)
    (h : exec i s = .next t) :
    t.c5 = s.c5 ∧ t.c16 = s.c16 ∧ t.rxb = s.rxb ∧ t.results = s.results ∧
      (t.flt = s.flt ∨ ((∃ sel, i = .vread sel) ∧ t.flt = s.flt ||| 0b1000)) := by
  cases i with
  | c5read | c16read => cases h; exact ⟨rfl, rfl, rfl, rfl, .inl rfl⟩
  | vread sel =>
    rcases exec_read_cases wf read h with ⟨v, rfl⟩ | rfl
    · exact ⟨rfl, rfl, rfl, rfl, .inl rfl⟩
    · exact ⟨rfl, rfl, rfl, rfl, .inr ⟨⟨sel, rfl⟩, rfl⟩⟩
  | _ => cases read

/-- Settles O58: the writers of the accumulators and VCLR cannot fault, and write registers of their own unit only; the
classes that can fault are the lemmas above. -/
theorem operationClassesAndFrames : Obligations.OperationClassesAndFrames := by
  refine ⟨fun _ _ _ => exec_pending, fun i s t writesC5 h => ?_, fun i s t writesC16 h => ?_, fun s t h => ?_,
    fun _ _ _ => exec_vpush_frame, fun _ _ => exec_vcheck_frame, fun _ _ _ => exec_read_frame⟩
  · rcases writesC5 with rfl | ⟨d, rfl⟩ | ⟨b, rfl⟩ <;> cases h <;> exact ⟨rfl, rfl, rfl, rfl, rfl⟩
  · rcases writesC16 with rfl | ⟨d, rfl⟩ | ⟨b, rfl⟩ <;> cases h <;> exact ⟨rfl, rfl, rfl, rfl, rfl⟩
  · cases h
    exact ⟨rfl, rfl, rfl, rfl⟩

end Sys2Proof.Machine
end

section
/-! The frame errors of a VCHECK: the cause of each, and which of several is reported (60_exceptions.md R200, R202). -/

namespace Sys2Proof.Machine

/-- The three causes of R200 as `validate` tests them, in the order of R202. -/
theorem validate_frameErrors (known : Byte → Bool) (f : Frame) :
    ((validate known f).vst = .errPreamble ↔ ¬ (f.f0 = 0xAA ∧ f.f1 = 0x55)) ∧
    ((validate known f).vst = .errCrc ↔ (f.f0 = 0xAA ∧ f.f1 = 0x55) ∧ crc5 f.span ≠ 0x00) ∧
    ((validate known f).vst = .errUnkreg ↔
      (f.f0 = 0xAA ∧ f.f1 = 0x55) ∧ crc5 f.span = 0x00 ∧ f.f8.getLsbD 7 = false ∧ known f.f7 = false) := by
  by_cases preamble : f.f0 = 0xAA ∧ f.f1 = 0x55
  case neg =>
    rw [validate_of_bad_preamble known preamble]
    exact ⟨iff_of_true rfl preamble, iff_of_false nofun fun h => preamble h.1, iff_of_false nofun fun h => preamble h.1⟩
  obtain ⟨h0, h1⟩ := preamble
  have notPreamble : ¬ ¬ (f.f0 = 0xAA ∧ f.f1 = 0x55) := not_not_intro ⟨h0, h1⟩
  by_cases crc : crc5 f.span = 0x00
  case neg =>
    rw [validate_of_bad_crc h0 h1 known crc]
    exact ⟨iff_of_false nofun notPreamble, iff_of_true rfl ⟨⟨h0, h1⟩, crc⟩, iff_of_false nofun fun h => crc h.2.1⟩
  have notCrc : ¬ ((f.f0 = 0xAA ∧ f.f1 = 0x55) ∧ crc5 f.span ≠ 0x00) := fun h => h.2 crc
  cases typ : f.f8.getLsbD 7 with
  | true =>
    rw [validate_of_job h0 h1 crc known typ]
    exact ⟨iff_of_false nofun notPreamble, iff_of_false nofun notCrc, iff_of_false nofun nofun⟩
  | false =>
    cases lookup : known f.f7 with
    | false =>
      rw [validate_of_unknown h0 h1 crc typ lookup]
      exact ⟨iff_of_false nofun notPreamble, iff_of_false nofun notCrc, iff_of_true rfl ⟨⟨h0, h1⟩, crc, rfl, rfl⟩⟩
    | true =>
      rw [validate_of_known h0 h1 crc typ lookup]
      exact ⟨iff_of_false nofun notPreamble, iff_of_false nofun notCrc, iff_of_false nofun nofun⟩

/-- What a frame error records: the address and the trailer when the address is the cause, else nothing (R200). -/
theorem validate_recorded_of_error (known : Byte → Bool) (f : Frame) :
    ((validate known f).vst = .errPreamble ∨ (validate known f).vst = .errCrc →
      (validate known f).vpay = none ∧ (validate known f).vb6 = none ∧ (validate known f).vb7 = none ∧
        (validate known f).vtrl = none) ∧
    ((validate known f).vst = .errUnkreg →
      (validate known f).vpay = none ∧ (validate known f).vb6 = none ∧ (validate known f).vb7 = some f.f7 ∧
        (validate known f).vtrl = some f.f8) := by
  rcases validate_cases known f with h | h | ⟨-, -, h⟩ | ⟨-, -, h⟩ | ⟨-, -, h⟩ <;> simp [h]

/-- Settles O39: VCHECK latches the outcome of `validate`, which has the causes and the records of the two lemmas
above. -/
theorem frameErrorCausesAndPriority : Obligations.FrameErrorCausesAndPriority := by
  intro s f hf
  obtain ⟨preamble, crc, unknown⟩ := validate_frameErrors Config.regAddrSet f
  obtain ⟨nothing, addressAndTrailer⟩ := validate_recorded_of_error Config.regAddrSet f
  exact ⟨_, exec_vcheck_full hf, preamble.trans not_and_or, crc, unknown, nothing, addressAndTrailer, rfl, rfl, rfl⟩

end Sys2Proof.Machine
end

section
/-! The usage faults (60_exceptions.md R204, R205): the cause of each, and its effect. -/

namespace Sys2Proof.Machine

theorem usageOf_eq_rxOverrun_iff (i : Instr) (s : State) :
    usageOf i s = some .rxOverrun ↔ (∃ b, i = .vpush b) ∧ s.rxn = 9 := by
  cases i with
  | vread sel => cases sel <;> simp [usageOf]
  | _ => simp [usageOf]

theorem usageOf_eq_rxUnderrun_iff (i : Instr) (s : State) :
    usageOf i s = some .rxUnderrun ↔ i = .vcheck ∧ s.rxn ≠ 9 := by
  cases i with
  | vread sel => cases sel <;> simp [usageOf]
  | _ => simp [usageOf]

/-- The verdict decides, and by the table of R34 it says which registers are empty. -/
theorem usageOf_eq_noResult_iff (i : Instr) {s : State} (hs : s.Consistent) :
    usageOf i s = some .noResult ↔
      (i = .vread .payload ∧ s.vpay = none) ∨ (i = .vread .b6 ∧ s.vb6 = none) ∨
      (i = .vread .b7 ∧ s.vb7 = none) ∨ (i = .vread .trailer ∧ s.vtrl = none) := by
  obtain ⟨hpay, hb6, hb7, htrl⟩ : s.vpay.isSome = s.vst.carriesPayload ∧ s.vb6.isSome = s.vst.carriesPayload ∧
    s.vb7.isSome = s.vst.carriesAddress ∧ s.vtrl.isSome = s.vst.carriesAddress := hs.followsTable
  cases i with
  | vread sel =>
    cases sel with
    | payload => simp [usageOf, ← carriesPayload_iff, ← hpay]
    | b6 => simp [usageOf, ← carriesPayload_iff, ← hb6]
    | b7 => simp [usageOf, ← carriesAddress_iff, ← hb7]
    | trailer => simp [usageOf, ← carriesAddress_iff, ← htrl]
    | _ => simp [usageOf]
  | _ => simp [usageOf]

/-- Of the terms of `Instr` VREAD of the reserved selector alone is ILLEGAL_OP, and no legal operation has it (R64). -/
theorem usageOf_ne_illegalOp {i : Instr} (wf : i.wellFormed = true) (s : State) : usageOf i s ≠ some .illegalOp := by
  cases i with
  | vread sel =>
    cases sel with
    | reserved => cases wf
    | _ => simp [usageOf]
  | _ => simp [usageOf]

/-- An operation raises the fault `usageOf` names and does nothing else. -/
theorem exec_of_usageOf_eq_some {i : Instr} {s : State} {u : Usage} (hs : s.Consistent) (fault : usageOf i s = some u) :
    exec i s = .next (raiseUsage u s) := by
  cases i with
  | vpush b =>
    by_cases full : s.rxn = 9
    · obtain rfl : Usage.rxOverrun = u := by simpa [usageOf, full] using fault
      exact exec_vpush_full b full
    · simp [usageOf, full] at fault
  | vcheck =>
    by_cases full : s.rxn = 9
    · simp [usageOf, full] at fault
    · obtain rfl : Usage.rxUnderrun = u := by simpa [usageOf, full] using fault
      exact exec_vcheck_short full
  | vread sel =>
    obtain ⟨t, ht, after⟩ := exec_afterRead (i := .vread sel) hs rfl
    rw [fault] at after
    obtain rfl : t = raiseUsage u s := after
    exact ht
  | _ => cases fault

/-- An operation of which `usageOf` names no fault raises none. -/
theorem exec_flt_of_usageOf_eq_none {i : Instr} {s : State} (hs : s.Consistent) (noFault : usageOf i s = none) :
    ∃ t, exec i s = .next t ∧ t.flt = s.flt := by
  cases i with
  | vpush b =>
    have room : s.rxn ≠ 9 := by simpa [usageOf] using noFault
    exact ⟨_, exec_vpush_room b room, rfl⟩
  | vcheck =>
    have full : s.rxn = 9 := by simpa [usageOf] using noFault
    obtain ⟨f, hf⟩ := exists_frame full
    exact ⟨_, exec_vcheck_full hf, rfl⟩
  | vread sel =>
    obtain ⟨t, ht, after⟩ := exec_afterRead (i := .vread sel) hs rfl
    rw [noFault] at after
    obtain ⟨v, rfl⟩ := after
    exact ⟨_, ht, rfl⟩
  | _ => exact ⟨_, rfl, rfl⟩

/-- Settles O54: illegal words by `raisesIllegalOp`; of a legal operation `usageOf` names the one fault, and `exec`
raises what it names. -/
theorem atMostOneUsageFault : Obligations.AtMostOneUsageFault :=
  ⟨fun _ => raisesIllegalOp, fun i s wf hs =>
    ⟨usageOf_eq_rxOverrun_iff i s, usageOf_eq_rxUnderrun_iff i s, usageOf_eq_noResult_iff i hs,
      usageOf_ne_illegalOp wf s, exec_of_usageOf_eq_some hs, exec_of_usageOf_eq_some hs, exec_of_usageOf_eq_some hs,
      exec_flt_of_usageOf_eq_none hs⟩⟩

end Sys2Proof.Machine
end

section
/-! Waiting and reset (70_reset_and_hazards.md R220 to R222): the step with nothing pending, the reset event, and the
operations that initialise the block as it does. -/

namespace Sys2Proof.Machine

/-- Settles O8: the wait returns nothing, and does nothing else. -/
theorem waitsWithNothingPending : Obligations.WaitsWithNothingPending := fun _ => step_nil

/-- Settles O9: the reset event writes each register from `State.reset`, and every other step is sticky. -/
theorem resetEventRestoresResetValues : Obligations.ResetEventRestoresResetValues :=
  ⟨fun _ _ => step_reset, fun _ _ h noReset => step_flt_sticky noReset h⟩

/-- C5INIT, C16INIT and VCLR write every register but `FLT` with its reset value, so with `FLT` clear they do what the
reset event does (R222). -/
theorem initialise_eq_resetEvent {s : State} (clean : s.flt = 0) :
    clearValidator (setC16 Config.crc16Params.init (setC5 Config.crc5Init s)) = resetEvent s :=
  congrArg (fun flt => { resetEvent s with flt := flt }) clean

theorem execAll_initialise (s : State) :
    execAll [.c5init, .c16init, .vclr] s =
      .next (clearValidator (setC16 Config.crc16Params.init (setC5 Config.crc5Init s))) :=
  (execAll_cons (exec_c5init _)).trans ((execAll_cons (exec_c16init _)).trans (execAll_cons (exec_vclr _)))

/-- Settles O10: both ways end in the reset event's state. -/
theorem initialisingEqualsReset : Obligations.InitialisingEqualsReset :=
  fun s clean => ⟨(execAll_initialise s).trans (congrArg _ (initialise_eq_resetEvent clean)), fun _ => step_reset rfl⟩

/-- Settles O50: nothing is held and nothing was checked. -/
theorem resetIsConsistent : Obligations.ResetIsConsistent := consistent_of_cleared reset_rxb reset_results

end Sys2Proof.Machine
end

section
/-! Every run ends (70_reset_and_hazards.md R231): each step takes one entry from the port. -/

namespace Sys2Proof.Machine

theorem run_empties_port {n : Nat} {s : State} (hn : s.pending.length = n) :
    ∃ t, run n s = .next t ∧ t.pending = [] := by
  induction n generalizing s with
  | zero => exact ⟨s, rfl, List.length_eq_zero_iff.1 hn⟩
  | succ n ih =>
    obtain ⟨u, hu⟩ := step_next s
    have oneFewer : u.pending.length = n := by rw [step_pending hu, List.length_tail, hn, Nat.add_sub_cancel]
    rw [run_succ hu]
    exact ih oneFewer

/-- Settles O11: a step always answers, and as many steps as entries take them all. -/
theorem everyRunEnds : Obligations.EveryRunEnds := ⟨step_next, fun _ => run_empties_port rfl⟩

end Sys2Proof.Machine
end

section
/-! Spans that merge (70_reset_and_hazards.md R223, R224): a read leaves the accumulator as it was, so what is fed
without an INIT goes on from the span before. -/

namespace Sys2Proof.Machine

/-- Bytes fed to the CRC-5 of `a` and read give the CRC-5 of `a` and them. -/
theorem execAll_c5_extends {s : State} {a : List Byte} (held : s.c5 = crc5 a) (b : List Byte) :
    ∃ u, execAll (b.map .c5byte ++ [.c5read]) s = .next u ∧ u.resp = some (zext32 (crc5 (a ++ b))) := by
  obtain ⟨t, ht⟩ := execAll_next (b.map .c5byte) s
  have fed : (b.map Instr.c5byte).flatMap crc5Fed = b.flatMap bitsMsbFirst := List.flatMap_map _ _ b
  have notInit : ∀ i ∈ b.map Instr.c5byte, i ≠ .c5init := List.forall_mem_map.2 fun _ _ => nofun
  have span : t.c5 = crc5 (a ++ b) := by
    rw [execAll_c5_of_not_init ht notInit, fed, held, crc5_append, foldl_crc5byte]
  exact ⟨_, (execAll_append ht).trans (execAll_cons (exec_c5read t)), by rw [respond_resp, span]⟩

/-- Bytes fed to the accumulator of `a` and read give the CRC-16 of `a` and them. -/
theorem execAll_c16_extends {s : State} {a : List Byte} (held : s.c16 = crc16acc Config.crc16Params a) (b : List Byte) :
    ∃ u, execAll (b.map .c16byte ++ [.c16read]) s = .next u ∧
      u.resp = some (zext32 (crc16 Config.crc16Params (a ++ b))) := by
  obtain ⟨t, ht⟩ := execAll_next (b.map .c16byte) s
  have fed : (b.map Instr.c16byte).flatMap (crc16Fed Config.crc16Params) = b.flatMap (crc16order Config.crc16Params) :=
    List.flatMap_map _ _ b
  have notInit : ∀ i ∈ b.map Instr.c16byte, i ≠ .c16init := List.forall_mem_map.2 fun _ _ => nofun
  have fold : t.c16 = crc16bits Config.crc16Params s.c16 _ :=
    execAll_foldl_fed (reg := State.c16) (fun i hi _ _ h => exec_c16_of_not_init h (notInit i hi)) ht
  have acc : t.c16 = crc16acc Config.crc16Params (a ++ b) := by
    rw [fold, fed, held, crc16acc_append, foldl_crc16byte]
  exact ⟨_, (execAll_append ht).trans (execAll_cons (exec_c16read_of_acc acc)), rfl⟩

/-- Settles O27: the sequence with the INIT leaves the accumulator of `a`, and `b` extends it. -/
theorem spansMergeWithoutInit : Obligations.SpansMergeWithoutInit := by
  intro s a b
  obtain ⟨u, hu, resp⟩ := execAll_c5_extends (s := respond (zext32 (crc5 a)) (setC5 (crc5 a) s)) rfl b
  obtain ⟨u', hu', resp'⟩ := execAll_c16_extends
    (s := respond (zext32 (crc16 Config.crc16Params a)) (setC16 (crc16acc Config.crc16Params a) s)) rfl b
  exact ⟨⟨_, u, execAll_crc5Sequence a s, rfl, hu, resp⟩, ⟨_, u', execAll_crc16Sequence a s, rfl, hu', resp'⟩⟩

end Sys2Proof.Machine
end
